-- ==== Sys2Proof/Word.lean ====
section
/-! DEFINITION. The word type of HVACIR-FM: every register, buffer byte, address and CTRL value is one byte
(spec/10_state.md R13, spec/20_memory.md R31, R34). -/

namespace Sys2Proof

/-- One byte: a register's contents, a FRAME or SYM byte, a register address or a CTRL byte (R13, R31). -/
abbrev Byte := BitVec 8

end Sys2Proof
end

