-- ==== Sys2Proof/Config.lean ====
section
/-! DEFINITION. The implementation parameters of one HVACIR-FM instance (spec/00_scope.md R3 to R12, R117;
spec/92_eei_decisions.md D14, D21). The values the spec leaves OPEN are opaque constants: no proof can see them, so
a statement about the machine holds for every legal parameter choice. Assumption log 5. -/

namespace Sys2Proof

/-- `N_A`: bytes of a variant A frame (R3). -/
abbrev Config.nA : Nat := 17

/-- `L_A`: bits of a variant A frame (R3). -/
abbrev Config.lA : Nat := 136

/-- `N_B`: bytes of a variant B frame (R3). -/
abbrev Config.nB : Nat := 18

/-- `L_B`: bits of a variant B frame (R3). -/
abbrev Config.lB : Nat := 144

/-- `FRAME_MAX_BITS`: capacity of the FRAME buffer in bits (R3). -/
abbrev Config.frameMaxBits : Nat := 144

/-- `TB_MAX_WIDTH`: the widest field TOBIN renders (R11). -/
abbrev Config.tbMaxWidth : Nat := 16

/-- `SYM_MAX`: capacity of the SYM buffer in symbols (R12). -/
abbrev Config.symMax : Nat := 144

/-- The number of one bits of a byte (`popcount` of R8). -/
def popcount (b : Byte) : Nat := ((List.range 8).map fun i => (b.getLsbD i).toNat).sum

/-- The parameters a model takes as arguments (spec/00_scope.md section 4). They are no registers: no host access
and no reset changes them (R117). -/
structure Params where
  /-- `HEADER_A[0..4]` (R4). -/
  headerA : Fin 5 → Byte
  /-- `HEADER_B[0..4]`, independent of `HEADER_A` (R5). -/
  headerB : Fin 5 → Byte
  /-- `POWER_A_OFF` (R7). -/
  powerAOff : Byte
  /-- `POWER_B_ON` (R8). -/
  powerBOn : Byte
  /-- `POWER_B_OFF` (R8). -/
  powerBOff : Byte
  /-- `ECONO_BIT`, 0 to 7 (R9). -/
  econoBit : Fin 8
  /-- `BYTE14_PAD` (R9). -/
  byte14Pad : Byte
  /-- `FOOTER_B[0..1]` (R10). -/
  footerB : Fin 2 → Byte

/-- `POWER_A_ON = 0x40` (R6): a fixed value, not a parameter. -/
abbrev Config.powerAOn : Byte := 0x40

/-- `TIMER_A_PLACEHOLDER = 0x04` (spec/41_codec_a.md R75): a fixed value, not a parameter. -/
abbrev Config.timerAPlaceholder : Byte := 0x04

/-- The constraints the spec puts on the parameters: R7 (the off pattern is not the on pattern), R8 (the two power
patterns of variant B differ in exactly one bit), R9 (bit `ECONO_BIT` of the padding is 0). -/
def Params.Legal (p : Params) : Prop :=
  p.powerAOff ≠ Config.powerAOn ∧ popcount (p.powerBOn ^^^ p.powerBOff) = 1 ∧
    p.byte14Pad.getLsbD p.econoBit = false

/-- The value of `HEADER_A` in this instance: OPEN (R4, D14). -/
opaque Config.headerA : Fin 5 → Byte

/-- The value of `HEADER_B` in this instance: OPEN (R5, D14). -/
opaque Config.headerB : Fin 5 → Byte

/-- Names `POWER_A_OFF` among the 255 bytes other than 0x40 (R7): OPEN. -/
opaque Config.powerAOffIndex : Fin 255

/-- The value of `POWER_B_OFF` in this instance: OPEN (R8, D14). -/
opaque Config.powerBOff : Byte

/-- The fixed position of the variant B power bit: OPEN (R8, D14). -/
opaque Config.powerBBit : Fin 8

/-- The value of `ECONO_BIT` in this instance: OPEN (R9, D14). -/
opaque Config.econoBit : Fin 8

/-- The seven padding bits of variant B byte 14, with a bit at `ECONO_BIT` that `Config.params` clears: OPEN (R9). -/
opaque Config.byte14Bits : Byte

/-- The value of `FOOTER_B` in this instance: OPEN (R10, D14). -/
opaque Config.footerB : Fin 2 → Byte

/-- The cycles an operation takes beyond the first, one value per CTRL byte: OPEN and read by no rule (R121, D21). -/
opaque Config.extraCycles : Byte → Nat

/-- `OP_LATENCY`: at least 1 cycle for each operation, observed by nothing in the model (R121). -/
def Config.opLatency (ctrl : Byte) : Nat := Config.extraCycles ctrl + 1

/-- The parameters of this instance. Every legal choice is reached by some value of the opaque constants, and every
value of them gives a legal choice (`Obligations.ParametersAreLegal` states the second half), so nothing is chosen here. -/
def Config.params : Params where
  headerA := Config.headerA
  headerB := Config.headerB
  powerAOff := 0x41 + BitVec.ofNat 8 Config.powerAOffIndex
  powerBOn := Config.powerBOff ^^^ ((1 : Byte) <<< (Config.powerBBit : Nat))
  powerBOff := Config.powerBOff
  econoBit := Config.econoBit
  byte14Pad := Config.byte14Bits &&& ~~~((1 : Byte) <<< (Config.econoBit : Nat))
  footerB := Config.footerB

end Sys2Proof
end

