-- ==== Sys2Proof/Syntax.lean ====
section
/-! DEFINITION. The operations of HVACIR-FM (one constructor per row of spec/opcode_table.json), the named registers,
the host's accesses and the host-program notation of spec/30_encoding.md R48 as abstract syntax. -/

namespace Sys2Proof

/-- The thirteen operations, one per legal CTRL byte (spec/30_encoding.md R44). No operation has an operand field:
every operand is a register or buffer its rule names (R43). -/
inductive Instr where
  /-- TOBIN, CTRL 0x01 (spec/40_bit_utilities.md R69). -/
  | tobin
  /-- PARSE, CTRL 0x02 (R70). -/
  | parse
  /-- REV, CTRL 0x03 (R71). -/
  | rev
  /-- ENCA, CTRL 0x04, RAW = 0 (spec/41_codec_a.md R79). -/
  | enca
  /-- ENCA.raw, CTRL 0x14, RAW = 1 (R79). -/
  | encaRaw
  /-- DECA, CTRL 0x05 (R81). -/
  | deca
  /-- CSUMA_GEN, CTRL 0x06 (R82). -/
  | csumaGen
  /-- CSUMA_CHK, CTRL 0x07 (R83). -/
  | csumaChk
  /-- ENCB, CTRL 0x08, RAW = 0 (spec/42_codec_b.md R92). -/
  | encb
  /-- ENCB.raw, CTRL 0x18, RAW = 1 (R92). -/
  | encbRaw
  /-- DECB, CTRL 0x09 (R94). -/
  | decb
  /-- CSUMB_GEN, CTRL 0x0A (R95). -/
  | csumbGen
  /-- CSUMB_CHK, CTRL 0x0B (R96). -/
  | csumbChk
  deriving DecidableEq, Repr

/-- The scalar registers by name (spec/10_state.md R15 to R25). Their addresses are `Reg.addr`. -/
inductive Reg where
  | ctrl | status | errInfo | frameLen | symLen
  | tbWidth | tbOffset | tbValueLo | tbValueHi
  | inPower | inMode | inTemp | inFan | inVane | inIsee | inEcono | inHour | inMinute
  | outVariant | outPower | outMode | outTemp | outFan | outVane | outIsee | outEcono
  | outTimer | outTimerOff | outTimerOn | outCheck
  deriving DecidableEq, Repr

/-- What reaches the block from outside, one at a time (spec/20_memory.md R34, R36, R37, R39;
spec/70_reset_and_hazards.md R114). Addresses and values are bytes, so no wider access can be expressed (R34). -/
inductive HostEvent where
  /-- The host's one-byte write `MemWrite(addr, 1, value)` (R37). -/
  | wr (addr value : Byte)
  /-- The host's one-byte read `MemRead(addr, 1)` (R36). -/
  | rd (addr : Byte)
  /-- A read with the host program's claim on its result, `EXPECT addr, value` (R48). -/
  | expect (addr value : Byte)
  /-- The level the reset input now has: `true` is asserted (R114, R115). -/
  | resetInput (asserted : Bool)
  deriving DecidableEq, Repr

/-- How a line of a host program writes an address (R48): a number, a register's name, `FRAME+i` or `SYM+j`. -/
inductive AddrExpr where
  | num (n : Nat)
  | reg (r : Reg)
  | framePlus (i : Nat)
  | symPlus (j : Nat)
  deriving DecidableEq, Repr

/-- One line of a host program (R48). Numbers are naturals here: a line out of range is refused by `Line.wellFormed`. -/
inductive Line where
  /-- `WR addr, value`. -/
  | wr (addr : AddrExpr) (value : Nat)
  /-- `RD addr`. -/
  | rd (addr : AddrExpr)
  /-- `EXPECT addr, value`. -/
  | expect (addr : AddrExpr) (value : Nat)
  /-- A pseudo-instruction: one operation by its mnemonic. -/
  | pseudo (i : Instr)
  /-- `; text`. -/
  | comment (text : String)
  deriving DecidableEq, Repr

end Sys2Proof
end

