-- ==== Sys2Proof/WellFormed.lean ====
section
/-! DEFINITION. What makes an operation and a host-program line well-formed (spec/30_encoding.md R43, R48). -/

namespace Sys2Proof

/-- Every operation is well-formed: the CTRL format has no operand field to be out of range (R43). -/
def Instr.wellFormed : Instr → Bool
  | .tobin | .parse | .rev | .enca | .encaRaw | .deca | .csumaGen | .csumaChk => true
  | .encb | .encbRaw | .decb | .csumbGen | .csumbChk => true

/-- The address an expression stands for lies in 0x00 to 0xFF (R48). A register's name always does. -/
def AddrExpr.wellFormed : AddrExpr → Bool
  | .num n => decide (n ≤ 0xFF)
  | .reg _ => true
  | .framePlus i => decide (0x40 + i ≤ 0xFF)
  | .symPlus j => decide (0x60 + j ≤ 0xFF)

/-- "A line with an address or value outside 0x00 to 0xFF is not a program (refused)" (R48). -/
def Line.wellFormed : Line → Bool
  | .wr a v => a.wellFormed && decide (v ≤ 0xFF)
  | .rd a => a.wellFormed
  | .expect a v => a.wellFormed && decide (v ≤ 0xFF)
  | .pseudo i => i.wellFormed
  | .comment _ => true

end Sys2Proof
end

