-- ==== Sys2Proof/Decode.lean ====
section
/-! DEFINITION. The decoder of CTRL bytes, the encoder beside it (spec/30_encoding.md R43 to R47), the register
addresses (spec/20_memory.md R31) and the assembly of host-program lines (R48). -/

namespace Sys2Proof

/-- Why a CTRL byte is no operation (R46). The machine reports all three alike, as IllegalOp (assumption log 12). -/
inductive DecodeReject where
  /-- `ctrl[7:5] != 0`. -/
  | reservedBits
  /-- `OP` is 0x0 or 0xC to 0xF. -/
  | reservedOp
  /-- `RAW = 1` with an operation that is neither ENCA nor ENCB (R45). -/
  | rawWithoutEncoder
  deriving DecidableEq, Repr

/-- `OP = ctrl[3:0]` (R43). -/
def ctrlOp (c : Byte) : BitVec 4 := c.extractLsb' 0 4

/-- `RAW = ctrl[4]` (R43). -/
def ctrlRaw (c : Byte) : Bool := c.getLsbD 4

/-- `RES = ctrl[7:5]` (R43). -/
def ctrlRes (c : Byte) : BitVec 3 := c.extractLsb' 5 3

/-- An operation that admits no RAW bit (R45). -/
def plainOp (raw : Bool) (i : Instr) : Except DecodeReject Instr :=
  if raw then .error .rawWithoutEncoder else .ok i

/-- The operation a CTRL byte selects, from that byte alone (R44 to R47). -/
def decode (c : Byte) : Except DecodeReject Instr :=
  if ctrlRes c ≠ 0 then .error .reservedBits
  else match (ctrlOp c).toNat with
    | 0x1 => plainOp (ctrlRaw c) .tobin
    | 0x2 => plainOp (ctrlRaw c) .parse
    | 0x3 => plainOp (ctrlRaw c) .rev
    | 0x4 => .ok (if ctrlRaw c then .encaRaw else .enca)
    | 0x5 => plainOp (ctrlRaw c) .deca
    | 0x6 => plainOp (ctrlRaw c) .csumaGen
    | 0x7 => plainOp (ctrlRaw c) .csumaChk
    | 0x8 => .ok (if ctrlRaw c then .encbRaw else .encb)
    | 0x9 => plainOp (ctrlRaw c) .decb
    | 0xA => plainOp (ctrlRaw c) .csumbGen
    | 0xB => plainOp (ctrlRaw c) .csumbChk
    | _ => .error .reservedOp

/-- The OP code of each operation (R44). -/
def opCode : Instr → BitVec 4
  | .tobin => 0x1
  | .parse => 0x2
  | .rev => 0x3
  | .enca => 0x4
  | .encaRaw => 0x4
  | .deca => 0x5
  | .csumaGen => 0x6
  | .csumaChk => 0x7
  | .encb => 0x8
  | .encbRaw => 0x8
  | .decb => 0x9
  | .csumbGen => 0xA
  | .csumbChk => 0xB

/-- The RAW bit of each operation (R45). -/
def rawBit : Instr → Bool
  | .encaRaw => true
  | .encbRaw => true
  | .tobin | .parse | .rev | .enca | .deca | .csumaGen | .csumaChk => false
  | .encb | .decb | .csumbGen | .csumbChk => false

/-- The CTRL byte of an operation, its three fields side by side: RES = 0, RAW, OP (R43). -/
def encode (i : Instr) : Byte := (0 : BitVec 3) ++ (BitVec.ofBool (rawBit i) ++ opCode i)

/-- The operation read from a row of the opcode table: the CTRL format is one byte (R43), so bits from 8 on are
none of the instruction's. -/
def decodeTableWord (nbits w : Nat) : Option Instr :=
  match decode (BitVec.ofNat 8 (w % 2 ^ nbits)) with
  | .ok i => some i
  | .error _ => none

/-- The address of each scalar register (spec/20_memory.md R31; spec/10_state.md R15 to R25). -/
def Reg.addr : Reg → Byte
  | .ctrl => 0x00
  | .status => 0x01
  | .errInfo => 0x02
  | .frameLen => 0x03
  | .symLen => 0x04
  | .tbWidth => 0x05
  | .tbOffset => 0x06
  | .tbValueLo => 0x07
  | .tbValueHi => 0x08
  | .inPower => 0x10
  | .inMode => 0x11
  | .inTemp => 0x12
  | .inFan => 0x13
  | .inVane => 0x14
  | .inIsee => 0x15
  | .inEcono => 0x16
  | .inHour => 0x17
  | .inMinute => 0x18
  | .outVariant => 0x20
  | .outPower => 0x21
  | .outMode => 0x22
  | .outTemp => 0x23
  | .outFan => 0x24
  | .outVane => 0x25
  | .outIsee => 0x26
  | .outEcono => 0x27
  | .outTimer => 0x28
  | .outTimerOff => 0x29
  | .outTimerOn => 0x2A
  | .outCheck => 0x2B

/-- The address an expression stands for (R48). -/
def AddrExpr.value : AddrExpr → Nat
  | .num n => n
  | .reg r => r.addr.toNat
  | .framePlus i => 0x40 + i
  | .symPlus j => 0x60 + j

/-- The one host access a line performs, none for a comment (R48). A pseudo-instruction is a write of its CTRL byte
to address 0x00. -/
def Line.expand : Line → Option HostEvent
  | .wr a v => some (.wr (BitVec.ofNat 8 a.value) (BitVec.ofNat 8 v))
  | .rd a => some (.rd (BitVec.ofNat 8 a.value))
  | .expect a v => some (.expect (BitVec.ofNat 8 a.value) (BitVec.ofNat 8 v))
  | .pseudo i => some (.wr (Reg.addr .ctrl) (encode i))
  | .comment _ => none

/-- The accesses of a host program, in order; none where a line is out of range, since that is not a program (R48). -/
def assemble (lines : List Line) : Option (List HostEvent) :=
  if lines.all Line.wellFormed then some (lines.filterMap Line.expand) else none

end Sys2Proof
end

