-- ==== Sys2Proof/Machine/State.lean ====
section
/-! DEFINITION. The state of HVACIR-FM as plain data (spec/10_state.md R13 to R30), the host's side of the interface,
the reasons a step may stop, and the state after reset. -/

namespace Sys2Proof.Machine

/-- The bytes of the two buffers, FRAME at 0x40 to 0x51 and SYM at 0x60 to 0xEF (R26, R27), as address and byte
pairs in the canonical form `Memory.wf` of Machine/Ops.lean. -/
abbrev Memory := List Host.Cell

/-- The result of one host read (spec/30_encoding.md R48): where it read, what it got, and what an EXPECT line claimed. -/
structure ReadResult where
  addr : Byte
  value : Byte
  claim : Option Byte
  deriving DecidableEq, Repr

/-- The MODEL's own record of the host, no state of the block (assumption logs 1, 2 and 3): the accesses the host has
yet to make, in its program order (spec/20_memory.md R39), the results of its reads, oldest first, and the level of
the reset input (spec/70_reset_and_hazards.md R114). -/
structure HostSide where
  pending : List HostEvent
  results : List ReadResult
  resetLine : Bool
  deriving DecidableEq, Repr

/-- The eleven fields a decode delivers in OUT_VARIANT to OUT_TIMER_ON (R24). -/
structure Decoded where
  variant : Byte
  power : Byte
  mode : Byte
  temp : Byte
  fan : Byte
  vane : Byte
  isee : Byte
  econo : Byte
  timer : Byte
  timerOff : Byte
  timerOn : Byte
  deriving DecidableEq, Repr

/-- The architectural state, "exactly: the 8-bit registers ..., the FRAME buffer ... and the SYM buffer" (R13), and
beside it the model's record of the host. There is no program counter (R14) and no hidden state (R28). -/
structure State where
  /-- CTRL, 0x00 (R15). -/
  ctrl : Byte
  /-- STATUS, 0x01 (R16): DONE is bit 0, VALID bit 1, ERR bits 4:2, bits 7:5 reserved. -/
  status : Byte
  /-- ERRINFO, 0x02 (R17). -/
  errInfo : Byte
  /-- FRAME_LEN, 0x03 (R18). -/
  frameLen : Byte
  /-- SYM_LEN, 0x04 (R19). -/
  symLen : Byte
  /-- TB_WIDTH, 0x05 (R20). -/
  tbWidth : Byte
  /-- TB_OFFSET, 0x06 (R20). -/
  tbOffset : Byte
  /-- TB_VALUE_LO, 0x07 (R20, R33). -/
  tbValueLo : Byte
  /-- TB_VALUE_HI, 0x08 (R20, R33). -/
  tbValueHi : Byte
  /-- IN_POWER, 0x10 (R21). -/
  inPower : Byte
  /-- IN_MODE, 0x11 (R21). -/
  inMode : Byte
  /-- IN_TEMP, 0x12 (R21). -/
  inTemp : Byte
  /-- IN_FAN, 0x13 (R21). -/
  inFan : Byte
  /-- IN_VANE, 0x14 (R21). -/
  inVane : Byte
  /-- IN_ISEE, 0x15 (R21). -/
  inIsee : Byte
  /-- IN_ECONO, 0x16 (R21). -/
  inEcono : Byte
  /-- IN_HOUR, 0x17 (R22). -/
  inHour : Byte
  /-- IN_MINUTE, 0x18 (R22). -/
  inMinute : Byte
  /-- OUT_VARIANT, 0x20 (R24). -/
  outVariant : Byte
  /-- OUT_POWER, 0x21 (R24). -/
  outPower : Byte
  /-- OUT_MODE, 0x22 (R24). -/
  outMode : Byte
  /-- OUT_TEMP, 0x23 (R24). -/
  outTemp : Byte
  /-- OUT_FAN, 0x24 (R24). -/
  outFan : Byte
  /-- OUT_VANE, 0x25 (R24). -/
  outVane : Byte
  /-- OUT_ISEE, 0x26 (R24). -/
  outIsee : Byte
  /-- OUT_ECONO, 0x27 (R24). -/
  outEcono : Byte
  /-- OUT_TIMER, 0x28 (R24). -/
  outTimer : Byte
  /-- OUT_TIMER_OFF, 0x29 (R24). -/
  outTimerOff : Byte
  /-- OUT_TIMER_ON, 0x2A (R24). -/
  outTimerOn : Byte
  /-- OUT_CHECK, 0x2B (R25). -/
  outCheck : Byte
  /-- FRAME and SYM (R26, R27). -/
  mem : Memory
  /-- The host's side: the model's own field, no state of the block. -/
  host : HostSide
  deriving DecidableEq, Repr

/-- The block stops on nothing: "An error never stops the block" (spec/60_exceptions.md R104), every address of the
register space exists (spec/20_memory.md R31), and a wider access cannot be expressed (R34). So no step ends in a
fault, and there is no constructor (safe: nothing the spec describes is cut short; assumption log 11). -/
inductive Fault where
  deriving DecidableEq, Repr

/-- Why a step has no meaning. -/
inductive Refusal where
  /-- Raised by an arm of `exec` that has no meaning yet; safe. No arm raises it: all thirteen operations are modelled. -/
  | notModelled (mnemonic : String)
  deriving DecidableEq, Repr

/-- The machine right after reset: "every register of this file, every FRAME byte and every SYM byte is 0x00" (R29,
R30; unlisted memory reads 0x00). The host has no access pending, has read nothing, and the reset input is released
(assumption log 19). -/
def State.reset : State where
  ctrl := 0x00
  status := 0x00
  errInfo := 0x00
  frameLen := 0x00
  symLen := 0x00
  tbWidth := 0x00
  tbOffset := 0x00
  tbValueLo := 0x00
  tbValueHi := 0x00
  inPower := 0x00
  inMode := 0x00
  inTemp := 0x00
  inFan := 0x00
  inVane := 0x00
  inIsee := 0x00
  inEcono := 0x00
  inHour := 0x00
  inMinute := 0x00
  outVariant := 0x00
  outPower := 0x00
  outMode := 0x00
  outTemp := 0x00
  outFan := 0x00
  outVane := 0x00
  outIsee := 0x00
  outEcono := 0x00
  outTimer := 0x00
  outTimerOff := 0x00
  outTimerOn := 0x00
  outCheck := 0x00
  mem := []
  host := { pending := [], results := [], resetLine := false }

end Sys2Proof.Machine
end

