-- ==== Sys2Proof/Machine/Flags.lean ====
section
/-! DEFINITION. The fields of STATUS (spec/10_state.md R16), the error classes with their codes and details
(spec/60_exceptions.md R100, R101) and the checksum verdict of OUT_CHECK (R25). -/

namespace Sys2Proof.Machine

/-- The fields ERRINFO names for an invalid input (R101). -/
inductive FieldId where
  | inPower | inMode | inTemp | inFan | inVane | inIsee | inEcono | inHour | inMinute
  | tbValue | tbWidth | tbOffset
  deriving DecidableEq, Repr

/-- The field ids of R101 (the same as in the tables of R21 and R22). -/
def FieldId.id : FieldId → Byte
  | .inPower => 1
  | .inMode => 2
  | .inTemp => 3
  | .inFan => 4
  | .inVane => 5
  | .inIsee => 6
  | .inEcono => 7
  | .inHour => 8
  | .inMinute => 9
  | .tbValue => 10
  | .tbWidth => 11
  | .tbOffset => 12

/-- An error an operation raises, with what R101 says of its detail. -/
inductive OpError where
  /-- InvalidInput: an input register outside its domain. -/
  | invalidInput (field : FieldId)
  /-- MalformedWire: the index of the byte or symbol that failed, or 0xFF for a length. -/
  | malformedWire (info : Byte)
  /-- InternalLength: the encoder's length self-check; no run raises it (R100). -/
  | internalLength
  /-- IllegalOp: the CTRL byte written (spec/30_encoding.md R46). -/
  | illegalOp (ctrl : Byte)
  deriving DecidableEq, Repr

/-- STATUS.ERR of each error class (R100). The code 0, NONE, is a completed operation's. -/
def OpError.code : OpError → BitVec 3
  | .invalidInput _ => 1
  | .malformedWire _ => 2
  | .internalLength => 3
  | .illegalOp _ => 4

/-- ERRINFO of each error (R101). -/
def OpError.info : OpError → Byte
  | .invalidInput f => f.id
  | .malformedWire b => b
  | .internalLength => 0xFF
  | .illegalOp c => c

/-- The detail MalformedWire reports for a wrong length (R101). -/
abbrev lengthError : OpError := .malformedWire 0xFF

/-- STATUS.DONE, bit 0 (R16). -/
def statusDone (st : Byte) : Bool := st.getLsbD 0

/-- STATUS.VALID, bit 1 (R16). -/
def statusValid (st : Byte) : Bool := st.getLsbD 1

/-- STATUS.ERR, bits 4:2 (R16). -/
def statusErr (st : Byte) : BitVec 3 := st.extractLsb' 2 3

/-- STATUS.RES, bits 7:5 (R16). -/
def statusRes (st : Byte) : BitVec 3 := st.extractLsb' 5 3

/-- STATUS put together from its four fields (R16). -/
def statusOf (res err : BitVec 3) (valid done : Bool) : Byte :=
  res ++ (err ++ (BitVec.ofBool valid ++ BitVec.ofBool done))

/-- `STATUS.DONE <- 1; STATUS.ERR <- code`, the other fields unchanged (R102, R103). Bits 7:5 are "never" written
(R16; assumption log 8). -/
def statusFinish (code : BitVec 3) (st : Byte) : Byte := statusOf (statusRes st) code (statusValid st) true

/-- `STATUS.VALID <- v`, the other fields unchanged (R102, R103). -/
def statusSetValid (v : Bool) (st : Byte) : Byte := statusOf (statusRes st) (statusErr st) v (statusDone st)

/-- The checksum verdict: 1 = check_OK, 2 = check_BAD (R25). -/
def verdict (ok : Bool) : Byte := if ok then 1 else 2

end Sys2Proof.Machine
end

