-- ==== Sys2Proof/Machine/Ops.lean ====
section
/-! DEFINITION. The named operations over memory, registers and the host's record; how an operation checks its
inputs; and the two commits: success (spec/60_exceptions.md R102) and error (R103). -/

namespace Sys2Proof.Machine

/-! ### Memory: the bytes of FRAME and SYM -/

/-- What a byte that is not listed reads as: FRAME and SYM reset to 0x00 (R29; assumption log 6). -/
def Memory.unlisted (_ : Nat) : Byte := 0x00

/-- The byte at an address. -/
def Memory.read : Memory → Nat → Byte
  | [], a => Memory.unlisted a
  | (b, v) :: m, a => if b = a then v else Memory.read m a

/-- `m` with every entry at address `a` taken out. -/
def Memory.erase (m : Memory) (a : Nat) : Memory := m.filter fun c => c.1 ≠ a

/-- `m` with the pair `(a, v)` put before the first greater address. -/
def Memory.insert : Memory → Nat → Byte → Memory
  | [], a, v => [(a, v)]
  | (b, w) :: m, a, v => if a < b then (a, v) :: (b, w) :: m else (b, w) :: Memory.insert m a v

/-- Write one byte, keeping the canonical form: a byte equal to what an unlisted address reads as is not listed. -/
def Memory.write (m : Memory) (a : Nat) (v : Byte) : Memory :=
  if v = Memory.unlisted a then m.erase a else (m.erase a).insert a v

/-- Write consecutive bytes from an address upward. -/
def Memory.writeBytes : Memory → Nat → List Byte → Memory
  | m, _, [] => m
  | m, a, v :: vs => Memory.writeBytes (m.write a v) (a + 1) vs

/-- The canonical form: addresses strictly rising and no entry equal to what an unlisted address reads as. -/
def Memory.wf : Memory → Bool
  | [] => true
  | (a, v) :: m => (v != Memory.unlisted a) && m.all (fun c => decide (a < c.1)) && Memory.wf m

/-- First address of FRAME (R26). -/
abbrev frameBase : Nat := 0x40

/-- First address of SYM (R27). -/
abbrev symBase : Nat := 0x60

/-- `FRAME[i]`, at address 0x40 + i (R26). -/
def State.frame (s : State) (i : Nat) : Byte := s.mem.read (frameBase + i)

/-- `SYM[j]`, at address 0x60 + j (R27). -/
def State.sym (s : State) (j : Nat) : Byte := s.mem.read (symBase + j)

/-! ### Updates, one per register or group of registers that the block writes -/

def State.setCtrl (s : State) (v : Byte) : State := { s with ctrl := v }
def State.setStatus (s : State) (v : Byte) : State := { s with status := v }
def State.setErrInfo (s : State) (v : Byte) : State := { s with errInfo := v }
def State.setFrameLen (s : State) (v : Byte) : State := { s with frameLen := v }
def State.setSymLen (s : State) (v : Byte) : State := { s with symLen := v }
def State.setOutCheck (s : State) (v : Byte) : State := { s with outCheck := v }
def State.setMem (s : State) (m : Memory) : State := { s with mem := m }
def State.setHost (s : State) (h : HostSide) : State := { s with host := h }

/-- Write OUT_VARIANT to OUT_TIMER_ON (R24). -/
def State.setDecoded (s : State) (d : Decoded) : State :=
  { s with
    outVariant := d.variant
    outPower := d.power
    outMode := d.mode
    outTemp := d.temp
    outFan := d.fan
    outVane := d.vane
    outIsee := d.isee
    outEcono := d.econo
    outTimer := d.timer
    outTimerOff := d.timerOff
    outTimerOn := d.timerOn }

/-- OUT_VARIANT to OUT_TIMER_ON, as one value (R24). -/
def State.decoded (s : State) : Decoded where
  variant := s.outVariant
  power := s.outPower
  mode := s.outMode
  temp := s.outTemp
  fan := s.outFan
  vane := s.outVane
  isee := s.outIsee
  econo := s.outEcono
  timer := s.outTimer
  timerOff := s.outTimerOff
  timerOn := s.outTimerOn

/-- `STATUS.VALID <- v` (R102, R103). -/
def State.setValid (s : State) (v : Bool) : State := s.setStatus (statusSetValid v s.status)

/-- Write consecutive FRAME bytes from `FRAME[i]` on (R26). -/
def State.writeFrame (s : State) (i : Nat) (vs : List Byte) : State := s.setMem (s.mem.writeBytes (frameBase + i) vs)

/-- Write consecutive SYM bytes from `SYM[j]` on (R27). -/
def State.writeSym (s : State) (j : Nat) (vs : List Byte) : State := s.setMem (s.mem.writeBytes (symBase + j) vs)

/-! ### The register space as the host sees it -/

/-- Every scalar register. -/
def allRegs : List Reg :=
  [.ctrl, .status, .errInfo, .frameLen, .symLen, .tbWidth, .tbOffset, .tbValueLo, .tbValueHi,
   .inPower, .inMode, .inTemp, .inFan, .inVane, .inIsee, .inEcono, .inHour, .inMinute,
   .outVariant, .outPower, .outMode, .outTemp, .outFan, .outVane, .outIsee, .outEcono,
   .outTimer, .outTimerOff, .outTimerOn, .outCheck]

/-- What stands at an address of the map (spec/20_memory.md R31). -/
inductive Loc where
  /-- A scalar register. -/
  | reg (r : Reg)
  /-- A byte of FRAME or SYM. -/
  | buffer
  /-- A reserved address. -/
  | reserved
  deriving DecidableEq, Repr

/-- The address of a FRAME or SYM byte (R26, R27). -/
def isBuffer (a : Nat) : Bool := (decide (0x40 ≤ a) && decide (a ≤ 0x51)) || (decide (0x60 ≤ a) && decide (a ≤ 0xEF))

/-- The address map (R31). -/
def locate (a : Byte) : Loc :=
  match allRegs.find? fun r => r.addr == a with
  | some r => .reg r
  | none => if isBuffer a.toNat then .buffer else .reserved

/-- The current value of a scalar register. -/
def readReg (r : Reg) (s : State) : Byte :=
  match r with
  | .ctrl => s.ctrl
  | .status => s.status
  | .errInfo => s.errInfo
  | .frameLen => s.frameLen
  | .symLen => s.symLen
  | .tbWidth => s.tbWidth
  | .tbOffset => s.tbOffset
  | .tbValueLo => s.tbValueLo
  | .tbValueHi => s.tbValueHi
  | .inPower => s.inPower
  | .inMode => s.inMode
  | .inTemp => s.inTemp
  | .inFan => s.inFan
  | .inVane => s.inVane
  | .inIsee => s.inIsee
  | .inEcono => s.inEcono
  | .inHour => s.inHour
  | .inMinute => s.inMinute
  | .outVariant => s.outVariant
  | .outPower => s.outPower
  | .outMode => s.outMode
  | .outTemp => s.outTemp
  | .outFan => s.outFan
  | .outVane => s.outVane
  | .outIsee => s.outIsee
  | .outEcono => s.outEcono
  | .outTimer => s.outTimer
  | .outTimerOff => s.outTimerOff
  | .outTimerOn => s.outTimerOn
  | .outCheck => s.outCheck

/-- A host write of a scalar register: a read/write register stores the byte, a read-only one (STATUS, ERRINFO, the
OUT_ registers) changes nothing (spec/20_memory.md R31, R37). What a write of CTRL starts is `memWrite`'s. -/
def writeReg (r : Reg) (v : Byte) (s : State) : State :=
  match r with
  | .ctrl => { s with ctrl := v }
  | .frameLen => { s with frameLen := v }
  | .symLen => { s with symLen := v }
  | .tbWidth => { s with tbWidth := v }
  | .tbOffset => { s with tbOffset := v }
  | .tbValueLo => { s with tbValueLo := v }
  | .tbValueHi => { s with tbValueHi := v }
  | .inPower => { s with inPower := v }
  | .inMode => { s with inMode := v }
  | .inTemp => { s with inTemp := v }
  | .inFan => { s with inFan := v }
  | .inVane => { s with inVane := v }
  | .inIsee => { s with inIsee := v }
  | .inEcono => { s with inEcono := v }
  | .inHour => { s with inHour := v }
  | .inMinute => { s with inMinute := v }
  | .status | .errInfo => s
  | .outVariant | .outPower | .outMode | .outTemp | .outFan | .outVane | .outIsee | .outEcono => s
  | .outTimer | .outTimerOff | .outTimerOn | .outCheck => s

/-- `MemRead(a, 1)` (R36): the register's or buffer byte's current value, 0x00 at a reserved address. -/
def memRead (a : Byte) (s : State) : Byte :=
  match locate a with
  | .reg r => readReg r s
  | .buffer => s.mem.read a.toNat
  | .reserved => 0x00

/-- What `MemWrite(a, 1, v)` stores, before any operation it starts (R37): nothing at a read-only register or a
reserved address. -/
def storeByte (a v : Byte) (s : State) : State :=
  match locate a with
  | .reg r => writeReg r v s
  | .buffer => s.setMem (s.mem.write a.toNat v)
  | .reserved => s

/-! ### Checks -/

/-- One test of an operation: whether it fails, and the error it then raises. -/
structure Check where
  fails : Bool
  error : OpError
  deriving DecidableEq, Repr

/-- `if p: raise e`. -/
def failIf (p : Prop) [Decidable p] (e : OpError) : Check := { fails := decide p, error := e }

/-- "the first test that fails in the order its rule states" (spec/60_exceptions.md R105). -/
def firstFailure : List Check → Option OpError
  | [] => none
  | c :: cs => if c.fails then some c.error else firstFailure cs

/-! ### The two commits -/

/-- The success commit (R102): `STATUS.DONE <- 1; STATUS.ERR <- 0; ERRINFO <- 0x00`. -/
def commitSuccess (s : State) : State := (s.setStatus (statusFinish 0 s.status)).setErrInfo 0x00

/-- The operations whose error clears STATUS.VALID (R103). -/
def clearsValid : Option Instr → Bool
  | some .deca => true
  | some .decb => true
  | _ => false

/-- The operations whose error clears OUT_CHECK (R103). -/
def clearsCheck : Option Instr → Bool
  | some .deca => true
  | some .decb => true
  | some .csumaChk => true
  | some .csumbChk => true
  | _ => false

/-- TAKING AN ERROR: the error commit (R103), the whole effect of `raise` (R108: no state is saved, no mode changes,
no vector is taken, and there is no return from an error). `op` is the operation, none for an illegal CTRL byte. -/
def commitError (op : Option Instr) (e : OpError) (s : State) : State :=
  let s1 := (s.setStatus (statusFinish e.code s.status)).setErrInfo e.info
  let s2 := if clearsValid op then s1.setValid false else s1
  if clearsCheck op then s2.setOutCheck 0 else s2

/-- The outcome of a step of this machine. -/
abbrev Result := Host.Outcome State Fault Refusal

/-- One operation as one atomic step (R102 to R104; spec/20_memory.md R37): the CTRL byte is stored, the tests are made
in order on the state then, and either the first failing one's error or the whole effect is committed. -/
def perform (i : Instr) (checks : State → List Check) (effect : State → State) (s : State) : Result :=
  let s1 := s.setCtrl (encode i)
  match firstFailure (checks s1) with
  | some e => .next (commitError (some i) e s1)
  | none => .next (commitSuccess (effect s1))

/-- Writing an illegal CTRL byte: it is stored in CTRL and IllegalOp is raised with it (spec/30_encoding.md R46). -/
def illegalWrite (c : Byte) (s : State) : State := commitError none (.illegalOp c) (s.setCtrl c)

/-! ### The host's record and the reset input -/

/-- The host goes on to its next access: the queue of pending accesses is `es`. -/
def State.setPending (s : State) (es : List HostEvent) : State := s.setHost { s.host with pending := es }

/-- The host keeps the result of a read (spec/30_encoding.md R48). -/
def recordRead (a v : Byte) (claim : Option Byte) (s : State) : State :=
  s.setHost { s.host with results := s.host.results ++ [{ addr := a, value := v, claim := claim }] }

/-- The reset input takes a level. -/
def State.setResetLine (s : State) (level : Bool) : State := s.setHost { s.host with resetLine := level }

/-- Every register and buffer byte at its reset value (spec/70_reset_and_hazards.md R114); the host is no part of it. -/
def resetBlock (s : State) : State := State.reset.setHost s.host

end Sys2Proof.Machine
end

