-- ==== Sys2Proof/Machine/Operands.lean ====
section
/-! DEFINITION. The operand forms and value computations of the operations: bit fields, bit order, symbols, tokens and
wire codes (spec/20_memory.md R32, R33; spec/30_encoding.md R49 to R64; spec/40_bit_utilities.md R66, R67). -/

namespace Sys2Proof.Machine

/-! ### Bits of a byte -/

/-- `v[hi:lo]`, as an unsigned number (spec/00_scope.md section 5). -/
def slice (v : Byte) (hi lo : Nat) : Byte := (v.extractLsb' lo (hi - lo + 1)).setWidth 8

/-- A bit as a byte, 0 or 1. -/
def bitByte (b : Bool) : Byte := if b then 1 else 0

/-- The byte whose bit `i` is `f i`, for `i` in 0..7. -/
def byteOfBits (f : Nat → Bool) : Byte :=
  BitVec.ofBool (f 7) ++ (BitVec.ofBool (f 6) ++ (BitVec.ofBool (f 5) ++ (BitVec.ofBool (f 4) ++
    (BitVec.ofBool (f 3) ++ (BitVec.ofBool (f 2) ++ (BitVec.ofBool (f 1) ++ BitVec.ofBool (f 0)))))))

/-- `rev8(b)`: bit `i` of the result is bit `7 - i` of `b` (R66). -/
def rev8 (b : Byte) : Byte := byteOfBits fun i => b.getLsbD (7 - i)

/-! ### TB_VALUE, FRAME as a bit sequence, symbols -/

/-- `TB_VALUE = R[TB_VALUE_HI] * 256 + R[TB_VALUE_LO]`, little-endian and unsigned (spec/10_state.md R20; R33). -/
def tbValue (s : State) : Nat := s.tbValueHi.toNat * 256 + s.tbValueLo.toNat

/-- Bit `k` of the bitstring in FRAME: `FRAME[k div 8][7 - (k mod 8)]` (R32). -/
def frameBit (s : State) (k : Nat) : Bool := (s.frame (k / 8)).getLsbD (7 - k % 8)

/-- `bitseq(FRAME, L)` (R32). -/
def bitseq (s : State) (l : Nat) : List Bool := (List.range l).map (frameBit s)

/-- The SYM byte of a digit character: 0x30 is `'0'`, 0x31 is `'1'` (R67; ASCII, PRESUMED, assumption log 10). -/
def digit (b : Bool) : Byte := 0x30 + bitByte b

/-- The four bytes that are symbols (R67). -/
def isSymbol (b : Byte) : Bool := b == 0x00 || b == 0x01 || b == 0x30 || b == 0x31

/-- The bit a symbol stands for: bit 0 of the symbol byte (R67). -/
def symbolBit (b : Byte) : Bool := b.getLsbD 0

/-- FRAME byte `i` of the bitstring of the first `n` symbols: bit `7 - (j mod 8)` of byte `j div 8` is symbol `j`'s
bit, and the bits past the last symbol are 0 (R70). -/
def packedByte (s : State) (n i : Nat) : Byte :=
  byteOfBits fun p => decide (8 * i + (7 - p) < n) && symbolBit (s.sym (8 * i + (7 - p)))

/-! ### Tokens and wire codes. Each table is read only where the rule's tests have passed (assumption log 9). -/

/-- `MODE_A[token]`: heat, dry, cold, auto, fan (R55). -/
def modeTableA : List Byte := [0x2, 0x5, 0x1, 0x3, 0x0]

/-- `MODE_B6[token]`: heat, dry, cold, auto, fan (R59). -/
def modeTableB6 : List Byte := [0b001, 0b010, 0b011, 0b100, 0b111]

/-- `MODE_B8[token]`: heat, dry, cold, auto, fan (R60). -/
def modeTableB8 : List Byte := [0b000, 0b010, 0b110, 0b110, 0b000]

/-- The code a table holds for a token. -/
def codeOf (table : List Byte) (token : Byte) : Byte := table.getD token.toNat 0

/-- The token whose code in the table is `code`. -/
def tokenOf (table : List Byte) (code : Byte) : Byte := BitVec.ofNat 8 (table.idxOf code)

/-- `VANE_A(token)`: 12 for auto, else the token (R56). -/
def vaneCodeA (token : Byte) : Byte := if token = 6 then 12 else token

/-- The vane token of a variant A code (spec/41_codec_a.md R80). -/
def vaneTokenA (code : Byte) : Byte := if code = 12 then 6 else code

/-- `VANE_B(token)`: 0b000 for auto, 0b111 for move, else the token (R61). -/
def vaneCodeB (token : Byte) : Byte := if token = 6 then 0b000 else if token = 7 then 0b111 else token

/-- The vane token of a variant B code (spec/42_codec_b.md R93). -/
def vaneTokenB (code : Byte) : Byte := if code = 0b000 then 6 else if code = 0b111 then 7 else code

/-- `FAN_B(token)`: the token itself (R62). -/
def fanCodeB (token : Byte) : Byte := token

/-- The beeper indicator: 0b10 at temperature 16 or 31, else 0b01 (R63; spec/42_codec_b.md R88). -/
def beep (t : Byte) : Byte := if t = 16 ∨ t = 31 then 0b10 else 0b01

/-- The completed 10-minute intervals since midnight, `hour * 6 + minute div 10` (R64). -/
def timeOfDay (hour minute : Byte) : Byte := BitVec.ofNat 8 (hour.toNat * 6 + minute.toNat / 10)

end Sys2Proof.Machine
end

