-- ==== Sys2Proof/Machine/BitUtility.lean ====
section
/-! DEFINITION. The bit-utility operations TOBIN, PARSE and REV (spec/40_bit_utilities.md R69 to R71). -/

namespace Sys2Proof.Machine

/-- TOBIN's tests: width (11), then offset (12), then value (10) (R69). The sum is made without wrap-around. -/
def tobinChecks (s : State) : List Check :=
  [failIf (s.tbWidth = 0 ∨ Config.tbMaxWidth < s.tbWidth.toNat) (.invalidInput .tbWidth),
   failIf (Config.symMax < s.tbOffset.toNat + s.tbWidth.toNat) (.invalidInput .tbOffset),
   failIf (2 ^ s.tbWidth.toNat ≤ tbValue s) (.invalidInput .tbValue)]

/-- The `w` binary digits of `v`, most significant first (R69). -/
def digits (w v : Nat) : List Byte := (List.range w).map fun k => digit (v.testBit (w - 1 - k))

/-- TOBIN's effect: the digits go to SYM from the offset on, and SYM_LEN is offset plus width (R69). -/
def tobinEffect (s : State) : State :=
  (s.writeSym s.tbOffset.toNat (digits s.tbWidth.toNat (tbValue s))).setSymLen
    (BitVec.ofNat 8 (s.tbOffset.toNat + s.tbWidth.toNat))

/-- TOBIN: render TB_VALUE as TB_WIDTH binary digits into SYM (R69). -/
def execTobin (s : State) : Result := perform .tobin tobinChecks tobinEffect s

/-- PARSE's tests: SYM_LEN, then each symbol in ascending index (R70). -/
def parseChecks (s : State) : List Check :=
  failIf (Config.symMax < s.symLen.toNat) lengthError ::
    (List.range s.symLen.toNat).map fun j =>
      failIf (isSymbol (s.sym j) = false) (.malformedWire (BitVec.ofNat 8 j))

/-- PARSE's effect: all of FRAME holds the bitstring of the symbols, and FRAME_LEN is SYM_LEN (R70). -/
def parseEffect (s : State) : State :=
  (s.writeFrame 0 ((List.range 18).map (packedByte s s.symLen.toNat))).setFrameLen s.symLen

/-- PARSE: normalise the symbols of SYM into the bitstring in FRAME (R70). -/
def execParse (s : State) : Result := perform .parse parseChecks parseEffect s

/-- REV's test: FRAME_LEN is a multiple of 8 and at most 144 (R71). -/
def revChecks (s : State) : List Check :=
  [failIf (Config.frameMaxBits < s.frameLen.toNat ∨ s.frameLen.toNat % 8 ≠ 0) lengthError]

/-- REV's effect: the bits of each of the first `FRAME_LEN / 8` bytes are reversed (R71). -/
def revEffect (s : State) : State :=
  s.writeFrame 0 ((List.range (s.frameLen.toNat / 8)).map fun i => rev8 (s.frame i))

/-- REV: reverse the bit order within each byte of the frame (R71). -/
def execRev (s : State) : Result := perform .rev revChecks revEffect s

end Sys2Proof.Machine
end

