-- ==== Sys2Proof/Machine/VariantA.lean ====
section
/-! DEFINITION. The variant A (W001CP) operations ENCA, ENCA.raw, DECA, CSUMA_GEN and CSUMA_CHK
(spec/41_codec_a.md R74 to R83). The shared operations take the parameters as an argument; `exec` gives them
`Config.params`. -/

namespace Sys2Proof.Machine

/-- The variant A input check, in ascending field id (R74). -/
def inputChecksA (s : State) : List Check :=
  [failIf (¬ (s.inPower = 0 ∨ s.inPower = 1)) (.invalidInput .inPower),
   failIf (4 < s.inMode.toNat) (.invalidInput .inMode),
   failIf (s.inTemp.toNat < 16 ∨ 31 < s.inTemp.toNat) (.invalidInput .inTemp),
   failIf (s.inFan.toNat < 1 ∨ 4 < s.inFan.toNat) (.invalidInput .inFan),
   failIf (¬ (s.inVane = 0 ∨ s.inVane = 1 ∨ s.inVane = 2 ∨ s.inVane = 3 ∨ s.inVane = 6)) (.invalidInput .inVane)]

/-- The variant A body, bytes 0 to 10 (R76). -/
def bodyA (p : Params) (s : State) : List Byte :=
  [p.headerA 0, p.headerA 1, p.headerA 2, p.headerA 3, p.headerA 4,
   if s.inPower = 1 then Config.powerAOn else p.powerAOff,
   ((s.inTemp - 16) <<< 4) ||| codeOf modeTableA s.inMode,
   (vaneCodeA s.inVane <<< 4) ||| ((s.inFan - 1) <<< 1) ||| 0x01,
   Config.timerAPlaceholder,
   0x00,
   0x00]

/-- The variant A checksum block of a body: `0xFF xor body[5 + i]`, i in 0..5 (R77). -/
def csumA (body : List Byte) : List Byte := (List.range 6).map fun i => 0xFF ^^^ body.getD (5 + i) 0

/-- The assembled variant A frame in layout order: body and checksum block (R79). -/
def assembleA (p : Params) (s : State) : List Byte := bodyA p s ++ csumA (bodyA p s)

/-- ENCA's tests: the inputs, then the length self-check, which never fails (R79; assumption log 18). -/
def encaChecks (p : Params) (s : State) : List Check :=
  inputChecksA s ++ [failIf (8 * (assembleA p s).length ≠ Config.lA) .internalLength]

/-- The final step of an encode: the LSB-first transform unless `CTRL.RAW` is 1
(R79; spec/40_bit_utilities.md R68; spec/30_encoding.md R45). -/
def transportOrder (ctrl : Byte) (fr : List Byte) : List Byte := if ctrlRaw ctrl then fr else fr.map rev8

/-- ENCA's effect: the frame in FRAME[0..16], FRAME[17] = 0x00 and FRAME_LEN = 136 (R79). -/
def encaEffect (p : Params) (s : State) : State :=
  (s.writeFrame 0 (transportOrder s.ctrl (assembleA p s) ++ [0x00])).setFrameLen (BitVec.ofNat 8 Config.lA)

/-- ENCA, CTRL 0x04: encode a variant A command, wire order (R79). -/
def execEnca (s : State) : Result := perform .enca (encaChecks Config.params) (encaEffect Config.params) s

/-- ENCA.raw, CTRL 0x14: encode a variant A command, layout order (R79). -/
def execEncaRaw (s : State) : Result := perform .encaRaw (encaChecks Config.params) (encaEffect Config.params) s

/-- The variant A structural check, in order (R78). -/
def structureChecksA (p : Params) (s : State) : List Check :=
  [failIf (s.frameLen.toNat ≠ Config.lA) lengthError,
   failIf (s.frame 0 ≠ p.headerA 0) (.malformedWire 0),
   failIf (s.frame 1 ≠ p.headerA 1) (.malformedWire 1),
   failIf (s.frame 2 ≠ p.headerA 2) (.malformedWire 2),
   failIf (s.frame 3 ≠ p.headerA 3) (.malformedWire 3),
   failIf (s.frame 4 ≠ p.headerA 4) (.malformedWire 4),
   failIf (s.frame 5 ≠ Config.powerAOn ∧ s.frame 5 ≠ p.powerAOff) (.malformedWire 5),
   failIf (slice (s.frame 6) 3 0 ∉ modeTableA) (.malformedWire 6),
   failIf (slice (s.frame 7) 7 4 ∉ ([0, 1, 2, 3, 12] : List Byte)) (.malformedWire 7),
   failIf (slice (s.frame 7) 3 3 ≠ 0 ∨ slice (s.frame 7) 0 0 ≠ 1) (.malformedWire 7),
   failIf (slice (s.frame 8) 7 2 ≠ 0b000001) (.malformedWire 8)]

/-- Whether the variant A checksum block is the complement of bytes 5 to 10 (R80, R83). -/
def checksumOkA (s : State) : Bool := (List.range 6).all fun i => s.frame (11 + i) == 0xFF ^^^ s.frame (5 + i)

/-- The variant A field extraction (R80), with 0 for the fields the variant lacks (R81). -/
def fieldsA (s : State) : Decoded where
  variant := 1
  power := if s.frame 5 = Config.powerAOn then 1 else 0
  mode := tokenOf modeTableA (slice (s.frame 6) 3 0)
  temp := 16 + slice (s.frame 6) 7 4
  fan := slice (s.frame 7) 2 1 + 1
  vane := vaneTokenA (slice (s.frame 7) 7 4)
  isee := 0
  econo := 0
  timer := slice (s.frame 8) 1 0
  timerOff := s.frame 9
  timerOn := s.frame 10

/-- DECA's effect: the fields in the OUT_ registers, the verdict in OUT_CHECK, STATUS.VALID = 1 (R81). -/
def decaEffect (s : State) : State :=
  ((s.setDecoded (fieldsA s)).setOutCheck (verdict (checksumOkA s))).setValid true

/-- DECA: decode a variant A frame, read in layout order, into the OUT_ registers (R81). -/
def execDeca (s : State) : Result := perform .deca (structureChecksA Config.params) decaEffect s

/-- The length test of the variant A checksum operations (R82, R83). -/
def lengthChecksA (s : State) : List Check := [failIf (s.frameLen.toNat ≠ Config.lA) lengthError]

/-- CSUMA_GEN's effect: FRAME[11 + i] <- 0xFF xor FRAME[5 + i], i in 0..5 (R82). -/
def csumaGenEffect (s : State) : State :=
  s.writeFrame 11 ((List.range 6).map fun i => 0xFF ^^^ s.frame (5 + i))

/-- CSUMA_GEN: write the variant A checksum block (R82). -/
def execCsumaGen (s : State) : Result := perform .csumaGen lengthChecksA csumaGenEffect s

/-- CSUMA_CHK's effect: the verdict in OUT_CHECK (R83). -/
def csumaChkEffect (s : State) : State := s.setOutCheck (verdict (checksumOkA s))

/-- CSUMA_CHK: verify the variant A checksum block (R83). -/
def execCsumaChk (s : State) : Result := perform .csumaChk lengthChecksA csumaChkEffect s

end Sys2Proof.Machine
end

