-- ==== Sys2Proof/Machine/VariantB.lean ====
section
/-! DEFINITION. The variant B (SG14D) operations ENCB, ENCB.raw, DECB, CSUMB_GEN and CSUMB_CHK
(spec/42_codec_b.md R87 to R96). The shared operations take the parameters as an argument; `exec` gives them
`Config.params`. -/

namespace Sys2Proof.Machine

/-- The variant B input check, in ascending field id (R87). -/
def inputChecksB (s : State) : List Check :=
  [failIf (¬ (s.inPower = 0 ∨ s.inPower = 1)) (.invalidInput .inPower),
   failIf (4 < s.inMode.toNat) (.invalidInput .inMode),
   failIf (s.inTemp.toNat < 16 ∨ 31 < s.inTemp.toNat) (.invalidInput .inTemp),
   failIf (5 < s.inFan.toNat) (.invalidInput .inFan),
   failIf (s.inVane.toNat < 1 ∨ 7 < s.inVane.toNat) (.invalidInput .inVane),
   failIf (¬ (s.inIsee = 0 ∨ s.inIsee = 1)) (.invalidInput .inIsee),
   failIf (¬ (s.inEcono = 0 ∨ s.inEcono = 1)) (.invalidInput .inEcono),
   failIf (23 < s.inHour.toNat) (.invalidInput .inHour),
   failIf (59 < s.inMinute.toNat) (.invalidInput .inMinute)]

/-- The variant B body, bytes 0 to 16 (R89). -/
def bodyB (p : Params) (s : State) : List Byte :=
  [p.headerB 0, p.headerB 1, p.headerB 2, p.headerB 3, p.headerB 4,
   if s.inPower = 1 then p.powerBOn else p.powerBOff,
   (s.inIsee <<< 6) ||| (codeOf modeTableB6 s.inMode <<< 3),
   s.inTemp - 16,
   ((0b00110 : Byte) <<< 3) ||| codeOf modeTableB8 s.inMode,
   (beep s.inTemp <<< 6) ||| (vaneCodeB s.inVane <<< 3) ||| fanCodeB s.inFan,
   timeOfDay s.inHour s.inMinute,
   0x00,
   0x00,
   0x00,
   p.byte14Pad ||| (s.inEcono <<< (p.econoBit : Nat)),
   p.footerB 0,
   p.footerB 1]

/-- The variant B checksum: the sum of the bytes, reduced mod 256 (R90). -/
def csumB (bytes : List Byte) : Byte := BitVec.ofNat 8 ((bytes.map BitVec.toNat).sum)

/-- The assembled variant B frame in layout order: body and checksum byte (R92). -/
def assembleB (p : Params) (s : State) : List Byte := bodyB p s ++ [csumB (bodyB p s)]

/-- ENCB's tests: the inputs, then the length self-check, which never fails (R92; assumption log 18). -/
def encbChecks (p : Params) (s : State) : List Check :=
  inputChecksB s ++ [failIf (8 * (assembleB p s).length ≠ Config.lB) .internalLength]

/-- ENCB's effect: the frame in FRAME[0..17] and FRAME_LEN = 144 (R92). The transform covers all 18 bytes. -/
def encbEffect (p : Params) (s : State) : State :=
  (s.writeFrame 0 (transportOrder s.ctrl (assembleB p s))).setFrameLen (BitVec.ofNat 8 Config.lB)

/-- ENCB, CTRL 0x08: encode a variant B command, wire order (R92). -/
def execEncb (s : State) : Result := perform .encb (encbChecks Config.params) (encbEffect Config.params) s

/-- ENCB.raw, CTRL 0x18: encode a variant B command, layout order (R92). -/
def execEncbRaw (s : State) : Result := perform .encbRaw (encbChecks Config.params) (encbEffect Config.params) s

/-- The variant B structural check, in order: length, header, footer, then bytes 5, 6 and 9 (R91). -/
def structureChecksB (p : Params) (s : State) : List Check :=
  [failIf (s.frameLen.toNat ≠ Config.lB) lengthError,
   failIf (s.frame 0 ≠ p.headerB 0) (.malformedWire 0),
   failIf (s.frame 1 ≠ p.headerB 1) (.malformedWire 1),
   failIf (s.frame 2 ≠ p.headerB 2) (.malformedWire 2),
   failIf (s.frame 3 ≠ p.headerB 3) (.malformedWire 3),
   failIf (s.frame 4 ≠ p.headerB 4) (.malformedWire 4),
   failIf (s.frame 15 ≠ p.footerB 0) (.malformedWire 15),
   failIf (s.frame 16 ≠ p.footerB 1) (.malformedWire 16),
   failIf (s.frame 5 ≠ p.powerBOn ∧ s.frame 5 ≠ p.powerBOff) (.malformedWire 5),
   failIf (slice (s.frame 6) 7 7 ≠ 0 ∨ slice (s.frame 6) 2 0 ≠ 0b000) (.malformedWire 6),
   failIf (slice (s.frame 6) 5 3 ∉ modeTableB6) (.malformedWire 6),
   failIf (slice (s.frame 9) 5 3 = 0b110) (.malformedWire 9),
   failIf (slice (s.frame 9) 2 0 ∈ ([0b110, 0b111] : List Byte)) (.malformedWire 9)]

/-- FRAME[0..16], the bytes the variant B checksum covers (R90). -/
def summedBytes (s : State) : List Byte := (List.range 17).map s.frame

/-- Whether FRAME[17] is the checksum of FRAME[0..16] (R93, R96). -/
def checksumOkB (s : State) : Bool := s.frame 17 == csumB (summedBytes s)

/-- The variant B field extraction (R93), with 0 for the fields the variant lacks (R94). -/
def fieldsB (p : Params) (s : State) : Decoded where
  variant := 2
  power := if s.frame 5 = p.powerBOn then 1 else 0
  mode := tokenOf modeTableB6 (slice (s.frame 6) 5 3)
  temp := 16 + slice (s.frame 7) 3 0
  fan := slice (s.frame 9) 2 0
  vane := vaneTokenB (slice (s.frame 9) 5 3)
  isee := slice (s.frame 6) 6 6
  econo := bitByte ((s.frame 14).getLsbD p.econoBit)
  timer := 0
  timerOff := 0
  timerOn := 0

/-- DECB's effect: the fields in the OUT_ registers, the verdict in OUT_CHECK, STATUS.VALID = 1 (R94). -/
def decbEffect (p : Params) (s : State) : State :=
  ((s.setDecoded (fieldsB p s)).setOutCheck (verdict (checksumOkB s))).setValid true

/-- DECB: decode a variant B frame, read in layout order, into the OUT_ registers (R94). -/
def execDecb (s : State) : Result := perform .decb (structureChecksB Config.params) (decbEffect Config.params) s

/-- The length test of the variant B checksum operations (R95, R96). -/
def lengthChecksB (s : State) : List Check := [failIf (s.frameLen.toNat ≠ Config.lB) lengthError]

/-- CSUMB_GEN's effect: FRAME[17] <- the sum of FRAME[0..16] mod 256 (R95). -/
def csumbGenEffect (s : State) : State := s.writeFrame 17 [csumB (summedBytes s)]

/-- CSUMB_GEN: write the variant B checksum byte (R95). -/
def execCsumbGen (s : State) : Result := perform .csumbGen lengthChecksB csumbGenEffect s

/-- CSUMB_CHK's effect: the verdict in OUT_CHECK (R96). -/
def csumbChkEffect (s : State) : State := s.setOutCheck (verdict (checksumOkB s))

/-- CSUMB_CHK: verify the variant B checksum byte (R96). -/
def execCsumbChk (s : State) : Result := perform .csumbChk lengthChecksB csumbChkEffect s

end Sys2Proof.Machine
end

