-- ==== Sys2Proof/Machine/Dispatch.lean ====
section
/-! DEFINITION. The meaning of each operation, one arm per constructor of `Instr`. -/

namespace Sys2Proof.Machine

/-- What the CTRL write that selects an operation does (spec/20_memory.md R37; spec/30_encoding.md R44). -/
def exec (i : Instr) (s : State) : Host.Outcome State Fault Refusal :=
  match i with
  | .tobin => Sys2Proof.Machine.execTobin s
  | .parse => Sys2Proof.Machine.execParse s
  | .rev => Sys2Proof.Machine.execRev s
  | .enca => Sys2Proof.Machine.execEnca s
  | .encaRaw => Sys2Proof.Machine.execEncaRaw s
  | .deca => Sys2Proof.Machine.execDeca s
  | .csumaGen => Sys2Proof.Machine.execCsumaGen s
  | .csumaChk => Sys2Proof.Machine.execCsumaChk s
  | .encb => Sys2Proof.Machine.execEncb s
  | .encbRaw => Sys2Proof.Machine.execEncbRaw s
  | .decb => Sys2Proof.Machine.execDecb s
  | .csumbGen => Sys2Proof.Machine.execCsumbGen s
  | .csumbChk => Sys2Proof.Machine.execCsumbChk s

end Sys2Proof.Machine
end

