-- ==== Sys2Proof/Machine/HostPort.lean ====
section
/-! DEFINITION. The host's accesses and the reset input, performed one at a time
(spec/20_memory.md R36 to R40; spec/70_reset_and_hazards.md R114 to R116). -/

namespace Sys2Proof.Machine

/-- A host write of CTRL: the byte is stored and the operation it selects is performed, an illegal byte raising
IllegalOp (R37; spec/30_encoding.md R46). -/
def ctrlWrite (v : Byte) (s : State) : Result :=
  match decode v with
  | .ok i => exec i s
  | .error _ => .next (illegalWrite v s)

/-- `MemWrite(a, 1, v)` (R37). -/
def memWrite (a v : Byte) (s : State) : Result :=
  if a = Reg.addr .ctrl then ctrlWrite v s else .next (storeByte a v s)

/-- One event at the interface. While reset is asserted a host access "has no effect and a read returns 0x00"
(R115), and every register and buffer byte has its reset value; it still has it when reset is released (R114). -/
def hostEvent (e : HostEvent) (s : State) : Result :=
  match e with
  | .wr a v => if s.host.resetLine then .next (resetBlock s) else memWrite a v s
  | .rd a =>
    if s.host.resetLine then .next (recordRead a 0x00 none (resetBlock s))
    else .next (recordRead a (memRead a s) none s)
  | .expect a v =>
    if s.host.resetLine then .next (recordRead a 0x00 (some v) (resetBlock s))
    else .next (recordRead a (memRead a s) (some v) s)
  | .resetInput level =>
    .next ((if level || s.host.resetLine then resetBlock s else s).setResetLine level)

/-- With no access pending the block is idle (R116): nothing changes, but that an asserted reset input holds every
register at its reset value (R114). -/
def idle (s : State) : State := if s.host.resetLine then resetBlock s else s

/-- The next event the host has pending is taken from its queue and performed (R39). -/
def hostStep (s : State) : Result :=
  match s.host.pending with
  | [] => .next (idle s)
  | e :: es => hostEvent e (s.setPending es)

/-- The state in which the host is about to perform the accesses of a program (spec/30_encoding.md R48); none where
the lines are no program. -/
def loadProgram (lines : List Line) (s : State) : Option State := (assemble lines).map s.setPending

/-- The host is about to write the CTRL byte of an instruction word, the reset input being released. -/
def placeCtrlWrite (s : State) (nbits w : Nat) : State :=
  (s.setPending (.wr (Reg.addr .ctrl) (BitVec.ofNat 8 (w % 2 ^ nbits)) :: s.host.pending)).setResetLine false

end Sys2Proof.Machine
end

