-- ==== Sys2Proof/Machine/Step.lean ====
section
/-! DEFINITION. One step of the machine: the block performs the host's next access. -/

namespace Sys2Proof.Machine

/-- One step: the next event at the host interface, performed whole before the one after it
(spec/20_memory.md R39, R40). -/
def step (s : State) : Host.Outcome State Fault Refusal := hostStep s

/-- `s` with the CTRL write of an instruction word as the host's next access (spec/10_state.md R14: an operation is
started by one host write to CTRL; assumption log 1). -/
def State.withFetchWord (s : State) (nbits w : Nat) : State := placeCtrlWrite s nbits w

end Sys2Proof.Machine
end

