-- ==== Sys2Proof/Machine/Notation.lean ====
section
/-! DEFINITION. The text of host programs (spec/30_encoding.md R48): one line of characters read into a `Line`.
Assumption log 16 says what the rule leaves open. -/

namespace Sys2Proof.Machine

/-- The name of a scalar register (spec/10_state.md R15 to R25). -/
def Reg.name : Reg → String
  | .ctrl => "CTRL"
  | .status => "STATUS"
  | .errInfo => "ERRINFO"
  | .frameLen => "FRAME_LEN"
  | .symLen => "SYM_LEN"
  | .tbWidth => "TB_WIDTH"
  | .tbOffset => "TB_OFFSET"
  | .tbValueLo => "TB_VALUE_LO"
  | .tbValueHi => "TB_VALUE_HI"
  | .inPower => "IN_POWER"
  | .inMode => "IN_MODE"
  | .inTemp => "IN_TEMP"
  | .inFan => "IN_FAN"
  | .inVane => "IN_VANE"
  | .inIsee => "IN_ISEE"
  | .inEcono => "IN_ECONO"
  | .inHour => "IN_HOUR"
  | .inMinute => "IN_MINUTE"
  | .outVariant => "OUT_VARIANT"
  | .outPower => "OUT_POWER"
  | .outMode => "OUT_MODE"
  | .outTemp => "OUT_TEMP"
  | .outFan => "OUT_FAN"
  | .outVane => "OUT_VANE"
  | .outIsee => "OUT_ISEE"
  | .outEcono => "OUT_ECONO"
  | .outTimer => "OUT_TIMER"
  | .outTimerOff => "OUT_TIMER_OFF"
  | .outTimerOn => "OUT_TIMER_ON"
  | .outCheck => "OUT_CHECK"

/-- The pseudo-instruction of an operation (R48). -/
def Instr.mnemonic : Instr → String
  | .tobin => "TOBIN"
  | .parse => "PARSE"
  | .rev => "REV"
  | .enca => "ENCA"
  | .encaRaw => "ENCA.raw"
  | .deca => "DECA"
  | .csumaGen => "CSUMA_GEN"
  | .csumaChk => "CSUMA_CHK"
  | .encb => "ENCB"
  | .encbRaw => "ENCB.raw"
  | .decb => "DECB"
  | .csumbGen => "CSUMB_GEN"
  | .csumbChk => "CSUMB_CHK"

/-- Every operation. -/
def allInstrs : List Instr :=
  [.tobin, .parse, .rev, .enca, .encaRaw, .deca, .csumaGen, .csumaChk, .encb, .encbRaw, .decb, .csumbGen, .csumbChk]

/-- The value of a digit character below a base of at most 16. -/
def digitValue (base : Nat) (c : Char) : Option Nat :=
  let n := c.toNat
  let v := if 0x30 ≤ n ∧ n ≤ 0x39 then n - 0x30
    else if 0x41 ≤ n ∧ n ≤ 0x46 then n - 0x41 + 10
    else if 0x61 ≤ n ∧ n ≤ 0x66 then n - 0x61 + 10
    else base
  if v < base then some v else none

/-- The number a sequence of digits stands for, after the digits that make `acc`. -/
def readDigits (base : Nat) : Nat → List Char → Option Nat
  | acc, [] => some acc
  | acc, c :: cs =>
    match digitValue base c with
    | some v => readDigits base (acc * base + v) cs
    | none => none

/-- A number: "Decimal numbers are written plainly, hexadecimal with `0x`" (R48). -/
def readNumber : List Char → Option Nat
  | [] => none
  | '0' :: 'x' :: c :: cs => readDigits 16 0 (c :: cs)
  | c :: cs => readDigits 10 0 (c :: cs)

/-- What follows a prefix of a word, none where the word does not begin with it. -/
def afterPrefix : List Char → List Char → Option (List Char)
  | [], cs => some cs
  | _ :: _, [] => none
  | p :: ps, c :: cs => if p = c then afterPrefix ps cs else none

/-- An address: a number, `FRAME+i`, `SYM+j` or a register's name (R48). -/
def readAddr (w : List Char) : Option AddrExpr :=
  match readNumber w with
  | some n => some (.num n)
  | none =>
    match afterPrefix "FRAME+".toList w with
    | some rest => (readNumber rest).map .framePlus
    | none =>
      match afterPrefix "SYM+".toList w with
      | some rest => (readNumber rest).map .symPlus
      | none => (allRegs.find? fun r => (Reg.name r).toList == w).map .reg

/-- The words of a line: a comma is a word of its own, spaces end a word. `cur` is the word being read, reversed. -/
def splitWords : List Char → List Char → List (List Char)
  | cur, [] => if cur.isEmpty then [] else [cur.reverse]
  | cur, c :: cs =>
    let done := if cur.isEmpty then [] else [cur.reverse]
    if c = ' ' then done ++ splitWords [] cs
    else if c = ',' then done ++ [','] :: splitWords [] cs
    else splitWords (c :: cur) cs

/-- The line two operands make. -/
def readPair (mk : AddrExpr → Nat → Line) (a v : List Char) : Option Line :=
  match readAddr a, readNumber v with
  | some a, some v => some (mk a v)
  | _, _ => none

/-- The line some words make (R48). -/
def readWords (ws : List (List Char)) : Option Line :=
  match ws with
  | [w] => (allInstrs.find? fun i => (Instr.mnemonic i).toList == w).map .pseudo
  | [w, a] => if w = "RD".toList then (readAddr a).map .rd else none
  | [w, a, [','], v] =>
    if w = "WR".toList then readPair .wr a v
    else if w = "EXPECT".toList then readPair .expect a v
    else none
  | _ => none

/-- One line of a host program: `;` begins a comment, which may follow an access on the same line (R48). -/
def readLine (text : List Char) : Option Line :=
  match splitWords [] (text.takeWhile fun c => c != ';') with
  | [] => (afterPrefix [';'] (text.dropWhile fun c => c != ';')).map fun cs => .comment (String.ofList cs)
  | ws => readWords ws

/-- A host program, line by line; none where some line is none of R48's. -/
def readProgram : List String → Option (List Line)
  | [] => some []
  | t :: ts =>
    match readLine t.toList, readProgram ts with
    | some l, some ls => some (l :: ls)
    | _, _ => none

/-- The state in which the host is about to perform the accesses of a program given as text; none where it is no
program. -/
def loadText (text : List String) (s : State) : Option State := (readProgram text).bind fun ls => loadProgram ls s

end Sys2Proof.Machine
end

