-- ==== Sys2Proof/Safety.lean ====
section
/-! DEFINITION. What counts as a good state and a good run of HVACIR-FM, in the terms claims use. -/

namespace Sys2Proof

open Sys2Proof.Machine

/-- FRAME and SYM are held in canonical form, and no other address is listed (spec/10_state.md R26, R27;
spec/20_memory.md R31). -/
def MemoryOk (s : State) : Prop := s.mem.wf = true ∧ ∀ c ∈ s.mem, isBuffer c.1 = true

/-- STATUS and ERRINFO as the spec says they read: bits 7:5 are 0 and the codes 5 to 7 are never produced (R16,
spec/60_exceptions.md R100), ERRINFO is 0 when no error is reported (R17), and before the first operation, DONE = 0,
neither VALID nor an error is set. -/
def StatusOk (s : State) : Prop :=
  statusRes s.status = 0 ∧ (statusErr s.status).toNat ≤ 4 ∧ (statusErr s.status = 0 → s.errInfo = 0) ∧
    (statusDone s.status = false → s.status = 0)

/-- The OUT_ registers hold a variant A decode (the column DECA of R24). -/
def OutputsA (s : State) : Prop :=
  s.outPower.toNat ≤ 1 ∧ s.outMode.toNat ≤ 4 ∧ 16 ≤ s.outTemp.toNat ∧ s.outTemp.toNat ≤ 31 ∧
    1 ≤ s.outFan.toNat ∧ s.outFan.toNat ≤ 4 ∧ (s.outVane.toNat ≤ 3 ∨ s.outVane = 6) ∧
    s.outIsee = 0 ∧ s.outEcono = 0 ∧ s.outTimer.toNat ≤ 3

/-- The OUT_ registers hold a variant B decode (the column DECB of R24). -/
def OutputsB (s : State) : Prop :=
  s.outPower.toNat ≤ 1 ∧ s.outMode.toNat ≤ 4 ∧ 16 ≤ s.outTemp.toNat ∧ s.outTemp.toNat ≤ 31 ∧
    s.outFan.toNat ≤ 5 ∧ 1 ≤ s.outVane.toNat ∧ s.outVane.toNat ≤ 7 ∧
    s.outIsee.toNat ≤ 1 ∧ s.outEcono.toNat ≤ 1 ∧ s.outTimer = 0 ∧ s.outTimerOff = 0 ∧ s.outTimerOn = 0

/-- The decoded output registers as a whole: nothing decoded yet (all 0), or a variant A or a variant B decode;
STATUS.VALID only with a decode; OUT_CHECK one of its three values (R16, R24, R25). -/
def OutputsOk (s : State) : Prop :=
  ((s.outVariant = 0 ∧ s.decoded = State.reset.decoded ∧ statusValid s.status = false) ∨
    (s.outVariant = 1 ∧ OutputsA s) ∨ (s.outVariant = 2 ∧ OutputsB s)) ∧ s.outCheck.toNat ≤ 2

/-- While the reset input is asserted the block is in the reset state (spec/70_reset_and_hazards.md R114). -/
def ResetHeld (s : State) : Prop := s.host.resetLine = true → s = State.reset.setHost s.host

/-- The claim of an EXPECT line held; a plain read claims nothing (spec/30_encoding.md R48). -/
def claimHolds (r : ReadResult) : Bool :=
  match r.claim with
  | none => true
  | some v => r.value == v

/-- A good end of a host program: every claim of its EXPECT lines held (R48). -/
def ClaimsHold (s : State) : Prop := s.host.results.all claimHolds = true

/-- `k` steps from `s` end in a next state with every claim held. -/
def GoodRun (k : Nat) (s : State) : Prop := ∃ t : State, core.run k s = .next t ∧ ClaimsHold t

end Sys2Proof
end

