-- ==== Sys2Proof/Certificates/Slice0/Obligations.lean ====
section
/-! DEFINITION. The statements about HVACIR-FM for the provers. What a rule of spec/ computes is written out here from
the rule's own words (namespace Sys2Proof.Claim), with numbers and masks where the rule gives them, so that a statement
does not repeat the model's helper that it is about. -/

namespace Sys2Proof.Claim

open Sys2Proof.Machine

/-- STATUS after the success commit (R102): DONE = 1, ERR = 0; VALID and bits 7:5 as before. -/
def doneStatus (st : Byte) : Byte := (st &&& 0xE2) ||| 0x01

/-- STATUS after an error commit that leaves VALID (R103): DONE = 1, ERR = `code`; VALID and bits 7:5 as before. -/
def errorStatus (st code : Byte) : Byte := (st &&& (0xE2 : Byte)) ||| (code <<< 2) ||| 0x01

/-- The state after an error that touches CTRL, STATUS and ERRINFO only (R103). -/
def errorState (s : State) (ctrl code info : Byte) : State :=
  { s with ctrl := ctrl, status := errorStatus s.status code, errInfo := info }

/-- The state after an error of CSUMA_CHK or CSUMB_CHK: OUT_CHECK is cleared as well (R103). -/
def checkErrorState (s : State) (ctrl info : Byte) : State :=
  { s with ctrl := ctrl, status := errorStatus s.status 2, errInfo := info, outCheck := 0 }

/-- The state after an error of DECA or DECB: STATUS.VALID and OUT_CHECK are cleared as well (R103). -/
def decodeErrorState (s : State) (ctrl info : Byte) : State :=
  { s with ctrl := ctrl, status := (s.status &&& 0xE0) ||| 0x09, errInfo := info, outCheck := 0 }

/-- The four bytes that are symbols (R67). -/
def symbol (b : Byte) : Prop := b = 0x00 ∨ b = 0x01 ∨ b = 0x30 ∨ b = 0x31

/-- The memories `m` and `n` read alike outside `[lo, hi)`. -/
def sameOutside (m n : Memory) (lo hi : Nat) : Prop := ∀ a, ¬ (lo ≤ a ∧ a < hi) → m.read a = n.read a

/-- TB_VALUE (R20, R33). -/
def operandValue (s : State) : Nat := s.tbValueHi.toNat * 256 + s.tbValueLo.toNat

/-- The variant A mode code of a token (R55). -/
def modeCodeA (m : Byte) : Byte :=
  if m = 0 then 0b0010 else if m = 1 then 0b0101 else if m = 2 then 0b0001 else if m = 3 then 0b0011 else 0b0000

/-- The mode token of a variant A code (R55). -/
def modeTokenA (c : Byte) : Byte :=
  if c = 0b0010 then 0 else if c = 0b0101 then 1 else if c = 0b0001 then 2 else if c = 0b0011 then 3 else 4

/-- The variant B byte 6 mode code of a token (R59). -/
def modeCodeB6 (m : Byte) : Byte :=
  if m = 0 then 0b001 else if m = 1 then 0b010 else if m = 2 then 0b011 else if m = 3 then 0b100 else 0b111

/-- The mode token of a variant B byte 6 code (R59). -/
def modeTokenB (c : Byte) : Byte :=
  if c = 0b001 then 0 else if c = 0b010 then 1 else if c = 0b011 then 2 else if c = 0b100 then 3 else 4

/-- The variant B byte 8 mode code of a token (R60). -/
def modeCodeB8 (m : Byte) : Byte :=
  if m = 0 then 0b000 else if m = 1 then 0b010 else if m = 2 then 0b110 else if m = 3 then 0b110 else 0b000

/-- The field id ENCA reports, none where every input is legal (R74). -/
def inputErrorA (s : State) : Option Byte :=
  if s.inPower ≠ 0 ∧ s.inPower ≠ 1 then some 1
  else if s.inMode.toNat > 4 then some 2
  else if s.inTemp.toNat < 16 ∨ s.inTemp.toNat > 31 then some 3
  else if s.inFan.toNat < 1 ∨ s.inFan.toNat > 4 then some 4
  else if s.inVane ≠ 0 ∧ s.inVane ≠ 1 ∧ s.inVane ≠ 2 ∧ s.inVane ≠ 3 ∧ s.inVane ≠ 6 then some 5
  else none

/-- The field id ENCB reports, none where every input is legal (R87). -/
def inputErrorB (s : State) : Option Byte :=
  if s.inPower ≠ 0 ∧ s.inPower ≠ 1 then some 1
  else if s.inMode.toNat > 4 then some 2
  else if s.inTemp.toNat < 16 ∨ s.inTemp.toNat > 31 then some 3
  else if s.inFan.toNat > 5 then some 4
  else if s.inVane = 0 ∨ s.inVane.toNat > 7 then some 5
  else if s.inIsee ≠ 0 ∧ s.inIsee ≠ 1 then some 6
  else if s.inEcono ≠ 0 ∧ s.inEcono ≠ 1 then some 7
  else if s.inHour.toNat > 23 then some 8
  else if s.inMinute.toNat > 59 then some 9
  else none

/-- The variant A frame in layout order: the body (R76) and its checksum block (R77). -/
def frameA (s : State) : List Byte :=
  let p := Config.params
  let b5 : Byte := if s.inPower = 1 then 0x40 else p.powerAOff
  let b6 : Byte := ((s.inTemp - 16) <<< 4) ||| modeCodeA s.inMode
  let b7 : Byte := ((if s.inVane = 6 then 12 else s.inVane) <<< 4) ||| ((s.inFan - 1) <<< 1) ||| 0x01
  [p.headerA 0, p.headerA 1, p.headerA 2, p.headerA 3, p.headerA 4, b5, b6, b7, 0x04, 0x00, 0x00,
   0xFF ^^^ b5, 0xFF ^^^ b6, 0xFF ^^^ b7, 0xFF ^^^ 0x04, 0xFF ^^^ 0x00, 0xFF ^^^ 0x00]

/-- The variant B body in layout order, bytes 0 to 16 (R88, R89). -/
def bodyB (s : State) : List Byte :=
  let p := Config.params
  let beeper : Byte := if s.inTemp = 16 ∨ s.inTemp = 31 then 0b10 else 0b01
  let vane : Byte := if s.inVane = 6 then 0b000 else if s.inVane = 7 then 0b111 else s.inVane
  [p.headerB 0, p.headerB 1, p.headerB 2, p.headerB 3, p.headerB 4,
   if s.inPower = 1 then p.powerBOn else p.powerBOff,
   (s.inIsee <<< 6) ||| (modeCodeB6 s.inMode <<< 3),
   s.inTemp - 16,
   0x30 ||| modeCodeB8 s.inMode,
   (beeper <<< 6) ||| (vane <<< 3) ||| s.inFan,
   BitVec.ofNat 8 (s.inHour.toNat * 6 + s.inMinute.toNat / 10),
   0x00, 0x00, 0x00,
   p.byte14Pad ||| (s.inEcono <<< (p.econoBit : Nat)),
   p.footerB 0, p.footerB 1]

/-- The sum of bytes mod 256 (R90). -/
def sumMod256 (bs : List Byte) : Byte := BitVec.ofNat 8 ((bs.map BitVec.toNat).sum)

/-- The variant B frame in layout order, bytes 0 to 17 (R89, R90). -/
def frameB (s : State) : List Byte := bodyB s ++ [sumMod256 (bodyB s)]

/-- The byte index DECA reports, 0xFF for the length, none where the structure is right (R78). -/
def structureErrorA (s : State) : Option Byte :=
  let p := Config.params
  let f := fun i => s.mem.read (0x40 + i)
  if s.frameLen ≠ 136 then some 0xFF
  else if f 0 ≠ p.headerA 0 then some 0
  else if f 1 ≠ p.headerA 1 then some 1
  else if f 2 ≠ p.headerA 2 then some 2
  else if f 3 ≠ p.headerA 3 then some 3
  else if f 4 ≠ p.headerA 4 then some 4
  else if f 5 ≠ 0x40 ∧ f 5 ≠ p.powerAOff then some 5
  else if f 6 &&& 0x0F ∉ ([0x0, 0x1, 0x2, 0x3, 0x5] : List Byte) then some 6
  else if f 7 >>> 4 ∉ ([0, 1, 2, 3, 12] : List Byte) then some 7
  else if (f 7).getLsbD 3 = true ∨ (f 7).getLsbD 0 = false then some 7
  else if f 8 >>> 2 ≠ 0b000001 then some 8
  else none

/-- The byte index DECB reports, 0xFF for the length, none where the structure is right (R91). -/
def structureErrorB (s : State) : Option Byte :=
  let p := Config.params
  let f := fun i => s.mem.read (0x40 + i)
  if s.frameLen ≠ 144 then some 0xFF
  else if f 0 ≠ p.headerB 0 then some 0
  else if f 1 ≠ p.headerB 1 then some 1
  else if f 2 ≠ p.headerB 2 then some 2
  else if f 3 ≠ p.headerB 3 then some 3
  else if f 4 ≠ p.headerB 4 then some 4
  else if f 15 ≠ p.footerB 0 then some 15
  else if f 16 ≠ p.footerB 1 then some 16
  else if f 5 ≠ p.powerBOn ∧ f 5 ≠ p.powerBOff then some 5
  else if (f 6).getLsbD 7 = true ∨ f 6 &&& 0x07 ≠ 0 then some 6
  else if (f 6 >>> 3) &&& 0x07 ∉ ([0b001, 0b010, 0b011, 0b100, 0b111] : List Byte) then some 6
  else if (f 9 >>> 3) &&& 0x07 = 0b110 then some 9
  else if f 9 &&& 0x07 ∈ ([0b110, 0b111] : List Byte) then some 9
  else none

/-- Whether FRAME[11..16] are the complements of FRAME[5..10] (R77). -/
abbrev checksumA (s : State) : Prop := ∀ i, i < 6 → s.mem.read (0x4B + i) = 0xFF ^^^ s.mem.read (0x45 + i)

/-- Whether FRAME[17] is the sum of FRAME[0..16] mod 256 (R90). -/
abbrev checksumB (s : State) : Prop :=
  s.mem.read 0x51 = sumMod256 ((List.range 17).map fun i => s.mem.read (0x40 + i))

/-- OUT_CHECK of a comparison: 1 = check_OK, 2 = check_BAD (R25). -/
def verdictOf (ok : Prop) [Decidable ok] : Byte := if ok then 1 else 2

/-- The state after a DECA whose structural check passed (R80, R81, R102). -/
def decodedA (s : State) : State :=
  let f := fun i => s.mem.read (0x40 + i)
  { s with
    ctrl := 0x05
    status := (s.status &&& 0xE0) ||| 0x03
    errInfo := 0
    outVariant := 1
    outPower := if f 5 = 0x40 then 1 else 0
    outMode := modeTokenA (f 6 &&& 0x0F)
    outTemp := (16 : Byte) + (f 6 >>> 4)
    outFan := ((f 7 >>> 1) &&& 0x03) + 1
    outVane := if f 7 >>> 4 = 12 then 6 else f 7 >>> 4
    outIsee := 0
    outEcono := 0
    outTimer := f 8 &&& 0x03
    outTimerOff := f 9
    outTimerOn := f 10
    outCheck := verdictOf (checksumA s) }

/-- The state after a DECB whose structural check passed (R93, R94, R102). -/
def decodedB (s : State) : State :=
  let p := Config.params
  let f := fun i => s.mem.read (0x40 + i)
  { s with
    ctrl := 0x09
    status := (s.status &&& 0xE0) ||| 0x03
    errInfo := 0
    outVariant := 2
    outPower := if f 5 = p.powerBOn then 1 else 0
    outMode := modeTokenB ((f 6 >>> 3) &&& 0x07)
    outTemp := (16 : Byte) + (f 7 &&& 0x0F)
    outFan := f 9 &&& 0x07
    outVane :=
      if (f 9 >>> 3) &&& 0x07 = 0b000 then 6
      else if (f 9 >>> 3) &&& 0x07 = 0b111 then 7
      else (f 9 >>> 3) &&& 0x07
    outIsee := (f 6 >>> 6) &&& 0x01
    outEcono := (f 14 >>> (p.econoBit : Nat)) &&& 0x01
    outTimer := 0
    outTimerOff := 0
    outTimerOn := 0
    outCheck := verdictOf (checksumB s) }

/-- The OUT_ registers of a round trip of the command in the input registers of `s` through variant A (R84). -/
def roundTripA (s u : State) : Prop :=
  u.outVariant = 1 ∧ u.outPower = s.inPower ∧ u.outMode = s.inMode ∧ u.outTemp = s.inTemp ∧ u.outFan = s.inFan ∧
    u.outVane = s.inVane ∧ u.outTimer = 0 ∧ u.outTimerOff = 0 ∧ u.outTimerOn = 0 ∧ u.outIsee = 0 ∧ u.outEcono = 0 ∧
    u.outCheck = 1 ∧ u.status.getLsbD 1 = true ∧ u.status.extractLsb' 2 3 = 0

/-- The OUT_ registers of a round trip of the command in the input registers of `s` through variant B (R97). -/
def roundTripB (s u : State) : Prop :=
  u.outVariant = 2 ∧ u.outPower = s.inPower ∧ u.outMode = s.inMode ∧ u.outTemp = s.inTemp ∧ u.outFan = s.inFan ∧
    u.outVane = s.inVane ∧ u.outIsee = s.inIsee ∧ u.outEcono = s.inEcono ∧ u.outTimer = 0 ∧ u.outTimerOff = 0 ∧
    u.outTimerOn = 0 ∧ u.outCheck = 1 ∧ u.status.getLsbD 1 = true ∧ u.status.extractLsb' 2 3 = 0

/-- `s` with bit `b` of `FRAME[i]` flipped. -/
def flipFrameBit (s : State) (i b : Nat) : State :=
  { s with mem := s.mem.write (0x40 + i) (s.mem.read (0x40 + i) ^^^ ((1 : Byte) <<< b)) }

/-- The thirteen legal CTRL bytes (R46). -/
def legalCtrl : List Byte := [0x01, 0x02, 0x03, 0x04, 0x05, 0x06, 0x07, 0x08, 0x09, 0x0A, 0x0B, 0x14, 0x18]

/-- A host write can change the byte at this address, CTRL apart (R31). -/
def writable (a : Byte) : Prop :=
  (0x03 ≤ a.toNat ∧ a.toNat ≤ 0x08) ∨ (0x10 ≤ a.toNat ∧ a.toNat ≤ 0x18) ∨
    (0x40 ≤ a.toNat ∧ a.toNat ≤ 0x51) ∨ (0x60 ≤ a.toNat ∧ a.toNat ≤ 0xEF)

/-- A reserved address (R31). -/
def reservedAddr (a : Byte) : Prop :=
  (0x09 ≤ a.toNat ∧ a.toNat ≤ 0x0F) ∨ (0x19 ≤ a.toNat ∧ a.toNat ≤ 0x1F) ∨ (0x2C ≤ a.toNat ∧ a.toNat ≤ 0x3F) ∨
    (0x52 ≤ a.toNat ∧ a.toNat ≤ 0x5F) ∨ 0xF0 ≤ a.toNat

/-- The two states agree on FRAME[lo..hi-1]. -/
def sameFrame (s t : State) (lo hi : Nat) : Prop :=
  ∀ i, lo ≤ i → i < hi → s.mem.read (0x40 + i) = t.mem.read (0x40 + i)

/-- The two states agree on the five command fields ENCA reads. -/
def sameCommandA (s t : State) : Prop :=
  s.inPower = t.inPower ∧ s.inMode = t.inMode ∧ s.inTemp = t.inTemp ∧ s.inFan = t.inFan ∧ s.inVane = t.inVane

/-- The two states agree on the nine input registers ENCB reads. -/
def sameCommandB (s t : State) : Prop :=
  sameCommandA s t ∧ s.inIsee = t.inIsee ∧ s.inEcono = t.inEcono ∧ s.inHour = t.inHour ∧ s.inMinute = t.inMinute

/-- The two states agree on the operands the operation's rule names ("Operands", R69 to R96). -/
def sameOperands : Instr → State → State → Prop
  | .tobin, s, t =>
    s.tbWidth = t.tbWidth ∧ s.tbOffset = t.tbOffset ∧ s.tbValueLo = t.tbValueLo ∧ s.tbValueHi = t.tbValueHi
  | .parse, s, t => s.symLen = t.symLen ∧ ∀ j, j < s.symLen.toNat → s.mem.read (0x60 + j) = t.mem.read (0x60 + j)
  | .rev, s, t => s.frameLen = t.frameLen ∧ sameFrame s t 0 (s.frameLen.toNat / 8)
  | .enca, s, t => sameCommandA s t
  | .encaRaw, s, t => sameCommandA s t
  | .deca, s, t => s.frameLen = t.frameLen ∧ sameFrame s t 0 17
  | .csumaGen, s, t => s.frameLen = t.frameLen ∧ sameFrame s t 5 11
  | .csumaChk, s, t => s.frameLen = t.frameLen ∧ sameFrame s t 5 17
  | .encb, s, t => sameCommandB s t
  | .encbRaw, s, t => sameCommandB s t
  | .decb, s, t => s.frameLen = t.frameLen ∧ sameFrame s t 0 18
  | .csumbGen, s, t => s.frameLen = t.frameLen ∧ sameFrame s t 0 17
  | .csumbChk, s, t => s.frameLen = t.frameLen ∧ sameFrame s t 0 18

/-- The two states agree on what the operation's rule says a completed operation writes ("Written", R69 to R96); DONE,
ERR and ERRINFO are `sameReport`'s. -/
def sameResults : Instr → State → State → Prop
  | .tobin, s, t =>
    s.symLen = t.symLen ∧
      ∀ j, s.tbOffset.toNat ≤ j → j < s.tbOffset.toNat + s.tbWidth.toNat →
        s.mem.read (0x60 + j) = t.mem.read (0x60 + j)
  | .parse, s, t => s.frameLen = t.frameLen ∧ sameFrame s t 0 18
  | .rev, s, t => sameFrame s t 0 (s.frameLen.toNat / 8)
  | .enca, s, t => s.frameLen = t.frameLen ∧ sameFrame s t 0 18
  | .encaRaw, s, t => s.frameLen = t.frameLen ∧ sameFrame s t 0 18
  | .deca, s, t =>
    s.decoded = t.decoded ∧ s.outCheck = t.outCheck ∧ s.status.getLsbD 1 = t.status.getLsbD 1
  | .csumaGen, s, t => sameFrame s t 11 17
  | .csumaChk, s, t => s.outCheck = t.outCheck
  | .encb, s, t => s.frameLen = t.frameLen ∧ sameFrame s t 0 18
  | .encbRaw, s, t => s.frameLen = t.frameLen ∧ sameFrame s t 0 18
  | .decb, s, t =>
    s.decoded = t.decoded ∧ s.outCheck = t.outCheck ∧ s.status.getLsbD 1 = t.status.getLsbD 1
  | .csumbGen, s, t => sameFrame s t 17 18
  | .csumbChk, s, t => s.outCheck = t.outCheck

/-- The address of each register (R15 to R25, R31). -/
def registerAddress : Reg → Nat
  | .ctrl => 0x00
  | .status => 0x01
  | .errInfo => 0x02
  | .frameLen => 0x03
  | .symLen => 0x04
  | .tbWidth => 0x05
  | .tbOffset => 0x06
  | .tbValueLo => 0x07
  | .tbValueHi => 0x08
  | .inPower => 0x10
  | .inMode => 0x11
  | .inTemp => 0x12
  | .inFan => 0x13
  | .inVane => 0x14
  | .inIsee => 0x15
  | .inEcono => 0x16
  | .inHour => 0x17
  | .inMinute => 0x18
  | .outVariant => 0x20
  | .outPower => 0x21
  | .outMode => 0x22
  | .outTemp => 0x23
  | .outFan => 0x24
  | .outVane => 0x25
  | .outIsee => 0x26
  | .outEcono => 0x27
  | .outTimer => 0x28
  | .outTimerOff => 0x29
  | .outTimerOn => 0x2A
  | .outCheck => 0x2B

/-- The CTRL byte each pseudo-instruction writes (R48). -/
def pseudoByte : Instr → Byte
  | .tobin => 0x01
  | .parse => 0x02
  | .rev => 0x03
  | .enca => 0x04
  | .encaRaw => 0x14
  | .deca => 0x05
  | .csumaGen => 0x06
  | .csumaChk => 0x07
  | .encb => 0x08
  | .encbRaw => 0x18
  | .decb => 0x09
  | .csumbGen => 0x0A
  | .csumbChk => 0x0B

/-- The number an address of a host program stands for (R48). -/
def addressNumber : AddrExpr → Nat
  | .num n => n
  | .reg r => registerAddress r
  | .framePlus i => 0x40 + i
  | .symPlus j => 0x60 + j

/-- The line's address and value lie in 0x00 to 0xFF (R48). -/
def lineInRange : Line → Prop
  | .wr a v => addressNumber a ≤ 0xFF ∧ v ≤ 0xFF
  | .rd a => addressNumber a ≤ 0xFF
  | .expect a v => addressNumber a ≤ 0xFF ∧ v ≤ 0xFF
  | .pseudo _ => True
  | .comment _ => True

/-- The access a line performs (R48). -/
def lineAccess : Line → Option HostEvent
  | .wr a v => some (.wr (BitVec.ofNat 8 (addressNumber a)) (BitVec.ofNat 8 v))
  | .rd a => some (.rd (BitVec.ofNat 8 (addressNumber a)))
  | .expect a v => some (.expect (BitVec.ofNat 8 (addressNumber a)) (BitVec.ofNat 8 v))
  | .pseudo i => some (.wr 0x00 (pseudoByte i))
  | .comment _ => none

/-- The state in which the host has gone on to the accesses `es` and has kept the result of a read as well. -/
def afterRead (s : State) (es : List HostEvent) (a v : Byte) (claim : Option Byte) : State :=
  { s with host := { s.host with
      pending := es, results := s.host.results ++ [{ addr := a, value := v, claim := claim }] } }

/-- The two states agree on what the commit of the operation writes, with an error or without one: DONE, ERR and ERRINFO,
VALID for the decodes, OUT_CHECK for the decodes and the CHK operations (R102, R103). -/
def sameReport (i : Instr) (s t : State) : Prop :=
  s.errInfo = t.errInfo ∧ s.status.extractLsb' 2 3 = t.status.extractLsb' 2 3 ∧
    s.status.getLsbD 0 = t.status.getLsbD 0 ∧
    (i = .deca ∨ i = .decb → s.status.getLsbD 1 = t.status.getLsbD 1) ∧
    (i = .deca ∨ i = .decb ∨ i = .csumaChk ∨ i = .csumbChk → s.outCheck = t.outCheck)

end Sys2Proof.Claim

open Sys2Proof Sys2Proof.Machine Sys2Proof.Claim

/-! ### Encoding, reset and the step -/

/-- R44, R46: the decoder gives an operation for exactly the thirteen legal CTRL bytes, and it is the one whose
encoding is that byte. -/
def Obligations.DecodeAndEncodeAgree : Prop :=
  (∀ i : Instr, i.wellFormed = true → decode (encode i) = .ok i) ∧
    (∀ (b : Byte) (i : Instr), decode b = .ok i → encode i = b) ∧
    (∀ b : Byte, (∃ i, decode b = .ok i) ↔ b ∈ legalCtrl)

/-- R44: five CTRL bytes written out bit by bit from the map, one of each family and both encoder forms. -/
def Obligations.OpcodeMapWordsDecode : Prop :=
  decode 0b00000010 = .ok .parse ∧ decode 0b00000100 = .ok .enca ∧ decode 0b00010100 = .ok .encaRaw ∧
    decode 0b00001001 = .ok .decb ∧ decode 0b00011000 = .ok .encbRaw

/-- R37, R39: when the host's next access is a write and reset is released, the step is that write, on the state in
which the host has gone on to its next access, whatever the address and the byte; and where it is a write of a legal CTRL
byte, the step is the operation that byte decodes to. A word of the opcode table
placed by `withFetchWord` is run so by the very next step. The host's queue and the level of the reset input are the
model's own fields (assumption logs 1 and 3). -/
def Obligations.StepRunsDecodedOperation : Prop :=
  (∀ (s : State) (a v : Byte) (es : List HostEvent),
    s.host.pending = .wr a v :: es → s.host.resetLine = false →
      step s = memWrite a v { s with host := { s.host with pending := es } }) ∧
  (∀ (s : State) (b : Byte) (es : List HostEvent) (i : Instr),
    s.host.pending = .wr 0x00 b :: es → s.host.resetLine = false → i.wellFormed = true → decode b = .ok i →
      step s = exec i { s with host := { s.host with pending := es } }) ∧
    ∀ (s : State) (w : Nat) (i : Instr), decodeTableWord 8 w = some i →
      step (s.withFetchWord 8 w) = exec i { s with host := { s.host with resetLine := false } }

/-- R29, R30: after reset every register reads 0x00, and so does every FRAME and SYM byte. -/
def Obligations.ResetClearsEveryRegister : Prop :=
  ∀ a : Byte, memRead a State.reset = 0x00

/-- R7, R8: the parameters of the instance meet the constraints of their rules (R9's too). -/
def Obligations.ParametersAreLegal : Prop := Config.params.Legal

/-- R66: rev8 puts bit 7 - i at bit i, and is its own inverse. -/
def Obligations.RevByteReversesBits : Prop :=
  ∀ b : Byte, (∀ i, i < 8 → (rev8 b).getLsbD i = b.getLsbD (7 - i)) ∧ rev8 (rev8 b) = b

/-- R46: every CTRL byte but the thirteen legal ones is stored in CTRL and raises IllegalOp with that byte; nothing
else changes, and a write of 0x00 is no exception. -/
def Obligations.IllegalCtrlByteIsReported : Prop :=
  ∀ (s : State) (b : Byte), b ∉ legalCtrl → memWrite 0x00 b s = .next (errorState s b 4 b)

/-- R36, R48: what each address reads, and that a step performing a read, plain or an EXPECT, changes no register and no
buffer byte. That the host takes the access from its queue and keeps what it read, with an EXPECT's claim, is the model's
own record (assumption logs 1, 2 and 13). -/
def Obligations.HostReadsTheMap : Prop :=
  ∀ s : State,
    (memRead 0x00 s = s.ctrl ∧ memRead 0x01 s = s.status ∧ memRead 0x02 s = s.errInfo ∧ memRead 0x03 s = s.frameLen ∧
      memRead 0x04 s = s.symLen ∧ memRead 0x05 s = s.tbWidth ∧ memRead 0x06 s = s.tbOffset ∧
      memRead 0x07 s = s.tbValueLo ∧ memRead 0x08 s = s.tbValueHi) ∧
    (memRead 0x10 s = s.inPower ∧ memRead 0x11 s = s.inMode ∧ memRead 0x12 s = s.inTemp ∧ memRead 0x13 s = s.inFan ∧
      memRead 0x14 s = s.inVane ∧ memRead 0x15 s = s.inIsee ∧ memRead 0x16 s = s.inEcono ∧
      memRead 0x17 s = s.inHour ∧ memRead 0x18 s = s.inMinute) ∧
    (memRead 0x20 s = s.outVariant ∧ memRead 0x21 s = s.outPower ∧ memRead 0x22 s = s.outMode ∧
      memRead 0x23 s = s.outTemp ∧ memRead 0x24 s = s.outFan ∧ memRead 0x25 s = s.outVane ∧
      memRead 0x26 s = s.outIsee ∧ memRead 0x27 s = s.outEcono ∧ memRead 0x28 s = s.outTimer ∧
      memRead 0x29 s = s.outTimerOff ∧ memRead 0x2A s = s.outTimerOn ∧ memRead 0x2B s = s.outCheck) ∧
    (∀ i, i < 18 → memRead (BitVec.ofNat 8 (0x40 + i)) s = s.frame i) ∧
    (∀ j, j < 144 → memRead (BitVec.ofNat 8 (0x60 + j)) s = s.sym j) ∧
    (∀ a, reservedAddr a → memRead a s = 0x00) ∧
    (∀ (a : Byte) (es : List HostEvent), s.host.pending = .rd a :: es → s.host.resetLine = false →
      step s = .next (afterRead s es a (memRead a s) none)) ∧
    (∀ (a v : Byte) (es : List HostEvent), s.host.pending = .expect a v :: es → s.host.resetLine = false →
      step s = .next (afterRead s es a (memRead a s) (some v)))

/-- R37: what a host write does at each address: a read/write register or buffer byte stores it, a read-only register or
a reserved address changes no state, and CTRL starts an operation or raises IllegalOp. -/
def Obligations.HostWritesTheMap : Prop :=
  ∀ (s : State) (v : Byte),
    (memWrite 0x03 v s = .next { s with frameLen := v } ∧ memWrite 0x04 v s = .next { s with symLen := v } ∧
      memWrite 0x05 v s = .next { s with tbWidth := v } ∧ memWrite 0x06 v s = .next { s with tbOffset := v } ∧
      memWrite 0x07 v s = .next { s with tbValueLo := v } ∧ memWrite 0x08 v s = .next { s with tbValueHi := v }) ∧
    (memWrite 0x10 v s = .next { s with inPower := v } ∧ memWrite 0x11 v s = .next { s with inMode := v } ∧
      memWrite 0x12 v s = .next { s with inTemp := v } ∧ memWrite 0x13 v s = .next { s with inFan := v } ∧
      memWrite 0x14 v s = .next { s with inVane := v } ∧ memWrite 0x15 v s = .next { s with inIsee := v } ∧
      memWrite 0x16 v s = .next { s with inEcono := v } ∧ memWrite 0x17 v s = .next { s with inHour := v } ∧
      memWrite 0x18 v s = .next { s with inMinute := v }) ∧
    (∀ a : Byte, (0x40 ≤ a.toNat ∧ a.toNat ≤ 0x51) ∨ (0x60 ≤ a.toNat ∧ a.toNat ≤ 0xEF) →
      ∃ m : Memory, memWrite a v s = .next { s with mem := m } ∧ m.read a.toNat = v ∧
        sameOutside m s.mem a.toNat (a.toNat + 1)) ∧
    (∀ a : Byte, a = 0x01 ∨ a = 0x02 ∨ (0x20 ≤ a.toNat ∧ a.toNat ≤ 0x2B) ∨ reservedAddr a →
      memWrite a v s = .next s) ∧
    (∀ i, decode v = .ok i → memWrite 0x00 v s = exec i s) ∧
    (v ∉ legalCtrl → memWrite 0x00 v s = .next (errorState s v 4 v))

/-- R31, R36, R37: over the whole address space, a write other than of CTRL reads back at a writable address, changes
nothing elsewhere, and reads back at no other address. -/
def Obligations.WriteReadsBack : Prop :=
  ∀ (s : State) (a v : Byte), a ≠ 0x00 →
    ∃ t : State, memWrite a v s = .next t ∧ (writable a → memRead a t = v) ∧ (¬ writable a → t = s) ∧
      ∀ b : Byte, b ≠ a → memRead b t = memRead b s

/-- R114, R115: asserting the reset input gives the reset state; while it is asserted a write has no effect, a read
(plain or an EXPECT) returns 0x00 and an idle block stays in the reset state; releasing it gives the reset state. The
level of the input and the host's record are the model's own fields (assumption logs 1, 2, 3 and 13), and the idle step
is its own choice (assumption log 4). -/
def Obligations.ResetInputHoldsResetState : Prop :=
  ∀ (s : State) (es : List HostEvent),
    (s.host.pending = .resetInput true :: es →
      step s = .next { State.reset with host := { s.host with pending := es, resetLine := true } }) ∧
    (s.host.resetLine = true →
      (s.host.pending = .resetInput false :: es →
        step s = .next { State.reset with host := { s.host with pending := es, resetLine := false } }) ∧
      (∀ a v : Byte, s.host.pending = .wr a v :: es →
        step s = .next { State.reset with host := { s.host with pending := es } }) ∧
      (∀ a : Byte, s.host.pending = .rd a :: es →
        step s = .next (afterRead (State.reset.setHost s.host) es a 0x00 none)) ∧
      (∀ a v : Byte, s.host.pending = .expect a v :: es →
        step s = .next (afterRead (State.reset.setHost s.host) es a 0x00 (some v))) ∧
      (s.host.pending = [] → step s = .next { State.reset with host := s.host }))

/-- R104, R107, R116: no state stops the machine, and with no access pending and reset released nothing changes. The
idle step is the model's own choice (assumption log 4). -/
def Obligations.NothingStopsTheBlock : Prop :=
  (∀ s : State, ∃ t : State, step s = .next t) ∧
    ∀ s : State, s.host.pending = [] → s.host.resetLine = false → step s = .next s

/-- R118 and the table of spec/95_test_vectors.md section 2.11: STATUS and ERRINFO after each legal CTRL byte written in
the reset state. -/
def Obligations.OperationsInTheResetState : Prop :=
  ∀ row ∈ ([(0x01, 0x05, 11), (0x02, 0x01, 0), (0x03, 0x01, 0), (0x04, 0x05, 3), (0x14, 0x05, 3), (0x05, 0x09, 0xFF),
      (0x06, 0x09, 0xFF), (0x07, 0x09, 0xFF), (0x08, 0x05, 3), (0x18, 0x05, 3), (0x09, 0x09, 0xFF),
      (0x0A, 0x09, 0xFF), (0x0B, 0x09, 0xFF)] : List (Byte × Byte × Byte)),
    memWrite 0x00 row.1 State.reset = .next { State.reset with ctrl := row.1, status := row.2.1, errInfo := row.2.2 }

/-- R48: a host program with a line whose address or value is outside 0x00 to 0xFF is refused; every other one is the
list of the accesses of its lines, in order: WR, RD and EXPECT at a number, a register's name, FRAME+i or SYM+j, none for
a comment, and a write of its CTRL byte to 0x00 for a pseudo-instruction. Lines are abstract syntax here;
HostTextNamesAreRead is about their text. -/
def Obligations.HostProgramAssembles : Prop :=
  (∀ lines : List Line, (∃ l ∈ lines, ¬ lineInRange l) → assemble lines = none) ∧
    ∀ lines : List Line, (∀ l ∈ lines, lineInRange l) → assemble lines = some (lines.filterMap lineAccess)

/-- R48: the access of each pseudo-instruction's text, of a read at each register's name, and of lines of each other form,
all written out. What a line may look like beyond the rule's table is the model's choice (assumption log 16). -/
def Obligations.HostTextNamesAreRead : Prop :=
  (∀ row ∈ ([
      ("TOBIN", 0x01), ("PARSE", 0x02), ("REV", 0x03), ("ENCA", 0x04), ("ENCA.raw", 0x14), ("DECA", 0x05),
      ("CSUMA_GEN", 0x06), ("CSUMA_CHK", 0x07), ("ENCB", 0x08), ("ENCB.raw", 0x18), ("DECB", 0x09),
      ("CSUMB_GEN", 0x0A), ("CSUMB_CHK", 0x0B)] : List (String × Byte)),
    (readProgram [row.1]).bind assemble = some [.wr 0x00 row.2]) ∧
  (∀ row ∈ ([
      ("CTRL", 0x00), ("STATUS", 0x01), ("ERRINFO", 0x02), ("FRAME_LEN", 0x03), ("SYM_LEN", 0x04),
      ("TB_WIDTH", 0x05), ("TB_OFFSET", 0x06), ("TB_VALUE_LO", 0x07), ("TB_VALUE_HI", 0x08), ("IN_POWER", 0x10),
      ("IN_MODE", 0x11), ("IN_TEMP", 0x12), ("IN_FAN", 0x13), ("IN_VANE", 0x14), ("IN_ISEE", 0x15),
      ("IN_ECONO", 0x16), ("IN_HOUR", 0x17), ("IN_MINUTE", 0x18), ("OUT_VARIANT", 0x20), ("OUT_POWER", 0x21),
      ("OUT_MODE", 0x22), ("OUT_TEMP", 0x23), ("OUT_FAN", 0x24), ("OUT_VANE", 0x25), ("OUT_ISEE", 0x26),
      ("OUT_ECONO", 0x27), ("OUT_TIMER", 0x28), ("OUT_TIMER_OFF", 0x29), ("OUT_TIMER_ON", 0x2A),
      ("OUT_CHECK", 0x2B)] : List (String × Byte)),
    (readProgram ["RD " ++ row.1]).bind assemble = some [.rd row.2]) ∧
  (∀ row ∈ ([("WR IN_TEMP, 24", .wr 0x12 24), ("WR 0x12, 0x18", .wr 0x12 24), ("WR 255, 255", .wr 0xFF 0xFF),
      ("EXPECT FRAME+17, 0xe6", .expect 0x51 0xE6), ("RD FRAME+0", .rd 0x40), ("RD SYM+143 ; last", .rd 0xEF)] :
      List (String × HostEvent)),
    (readProgram [row.1]).bind assemble = some [row.2]) ∧
  (readProgram ["; text"]).bind assemble = some [] ∧
  ∀ text ∈ (["WR 256, 0", "WR 0, 256", "RD FRAME+192", "EXPECT SYM+160, 0"] : List String),
    (readProgram [text]).bind assemble = none

/-! ### The bit utilities -/

/-- R69: TOBIN's digits, SYM_LEN, errors in their order, and frame. -/
def Obligations.TobinRendersDigits : Prop :=
  ∀ (s : State) (w off : Nat), s.tbWidth.toNat = w → s.tbOffset.toNat = off →
    (w = 0 ∨ w > 16 → exec .tobin s = .next (errorState s 0x01 1 11)) ∧
    (1 ≤ w → w ≤ 16 → off + w > 144 → exec .tobin s = .next (errorState s 0x01 1 12)) ∧
    (1 ≤ w → w ≤ 16 → off + w ≤ 144 → operandValue s ≥ 2 ^ w → exec .tobin s = .next (errorState s 0x01 1 10)) ∧
    (1 ≤ w → w ≤ 16 → off + w ≤ 144 → operandValue s < 2 ^ w →
      ∃ m : Memory,
        exec .tobin s = .next { s with
          ctrl := 0x01, status := doneStatus s.status, errInfo := 0, symLen := BitVec.ofNat 8 (off + w), mem := m } ∧
        (∀ k, k < w → m.read (0x60 + off + k) = if (operandValue s).testBit (w - 1 - k) then 0x31 else 0x30) ∧
        sameOutside m s.mem (0x60 + off) (0x60 + off + w))

/-- R70: PARSE's bitstring, FRAME_LEN, errors in their order, and frame. -/
def Obligations.ParsePacksSymbols : Prop :=
  ∀ (s : State) (n : Nat), s.symLen.toNat = n →
    (n > 144 → exec .parse s = .next (errorState s 0x02 2 0xFF)) ∧
    (∀ j, n ≤ 144 → j < n → ¬ symbol (s.mem.read (0x60 + j)) → (∀ i, i < j → symbol (s.mem.read (0x60 + i))) →
      exec .parse s = .next (errorState s 0x02 2 (BitVec.ofNat 8 j))) ∧
    (n ≤ 144 → (∀ j, j < n → symbol (s.mem.read (0x60 + j))) →
      ∃ m : Memory,
        exec .parse s = .next { s with
          ctrl := 0x02, status := doneStatus s.status, errInfo := 0, frameLen := s.symLen, mem := m } ∧
        (∀ k, k < n → (m.read (0x40 + k / 8)).getLsbD (7 - k % 8) = (s.mem.read (0x60 + k)).getLsbD 0) ∧
        (∀ k, n ≤ k → k < 144 → (m.read (0x40 + k / 8)).getLsbD (7 - k % 8) = false) ∧
        sameOutside m s.mem 0x40 0x52)

/-- R71: REV reverses the bits of each of the first FRAME_LEN / 8 bytes, and its error. -/
def Obligations.RevReversesEachByte : Prop :=
  ∀ (s : State) (l : Nat), s.frameLen.toNat = l →
    (l > 144 ∨ l % 8 ≠ 0 → exec .rev s = .next (errorState s 0x03 2 0xFF)) ∧
    (l ≤ 144 → l % 8 = 0 →
      ∃ m : Memory,
        exec .rev s = .next { s with ctrl := 0x03, status := doneStatus s.status, errInfo := 0, mem := m } ∧
        (∀ i b, i < l / 8 → b < 8 → (m.read (0x40 + i)).getLsbD b = (s.mem.read (0x40 + i)).getLsbD (7 - b)) ∧
        sameOutside m s.mem 0x40 (0x40 + l / 8))

/-- R72: REV is its own inverse. -/
def Obligations.RevTwiceRestoresFrame : Prop :=
  ∀ s : State, s.frameLen.toNat % 8 = 0 → s.frameLen.toNat ≤ 144 →
    ∃ t u : State, exec .rev s = .next t ∧ exec .rev t = .next u ∧
      (∀ a, u.mem.read a = s.mem.read a) ∧ u.frameLen = s.frameLen ∧
      t.status = doneStatus s.status ∧ t.errInfo = 0 ∧ u.status = doneStatus s.status ∧ u.errInfo = 0

/-- R73: TOBIN then PARSE packs a field, and both complete without an error. -/
def Obligations.TobinThenParsePacksField : Prop :=
  ∀ s : State, s.tbOffset = 0 → 1 ≤ s.tbWidth.toNat → s.tbWidth.toNat ≤ 16 → operandValue s < 2 ^ s.tbWidth.toNat →
    ∃ t u : State, exec .tobin s = .next t ∧ t.status = doneStatus s.status ∧ t.errInfo = 0 ∧
      exec .parse t = .next u ∧ u.status = doneStatus s.status ∧ u.errInfo = 0 ∧ u.frameLen = s.tbWidth ∧
      bitseq u s.tbWidth.toNat =
        (List.range s.tbWidth.toNat).map (fun k => (operandValue s).testBit (s.tbWidth.toNat - 1 - k)) ∧
      (s.tbWidth = 8 → (u.frame 0).toNat = operandValue s)

/-! ### Variant A -/

/-- R74, R76, R77, R79: the frame ENCA and ENCA.raw write, FRAME_LEN, the error of each illegal input in order, and the
frame. -/
def Obligations.EncaWritesVariantAFrame : Prop :=
  ∀ s : State,
    (inputErrorA s = none →
      (∃ m : Memory,
        exec .encaRaw s = .next { s with
          ctrl := 0x14, status := doneStatus s.status, errInfo := 0, frameLen := 136, mem := m } ∧
        (∀ i, i < 17 → m.read (0x40 + i) = (frameA s).getD i 0) ∧ m.read 0x51 = 0x00 ∧
        sameOutside m s.mem 0x40 0x52) ∧
      (∃ m : Memory,
        exec .enca s = .next { s with
          ctrl := 0x04, status := doneStatus s.status, errInfo := 0, frameLen := 136, mem := m } ∧
        (∀ i, i < 17 → m.read (0x40 + i) = rev8 ((frameA s).getD i 0)) ∧ m.read 0x51 = 0x00 ∧
        sameOutside m s.mem 0x40 0x52)) ∧
    (∀ f, inputErrorA s = some f →
      exec .encaRaw s = .next (errorState s 0x14 1 f) ∧ exec .enca s = .next (errorState s 0x04 1 f))

/-- R78, R80, R81: the fields DECA delivers, the error of each structural test in order, and the frame. -/
def Obligations.DecaDecodesVariantAFrame : Prop :=
  ∀ s : State,
    (structureErrorA s = none → exec .deca s = .next (decodedA s)) ∧
    (∀ info, structureErrorA s = some info → exec .deca s = .next (decodeErrorState s 0x05 info))

/-- R82: CSUMA_GEN writes the complements of FRAME[5..10] and nothing else. -/
def Obligations.CsumaGenWritesComplements : Prop :=
  ∀ s : State,
    (s.frameLen = 136 →
      ∃ m : Memory,
        exec .csumaGen s = .next { s with ctrl := 0x06, status := doneStatus s.status, errInfo := 0, mem := m } ∧
        (∀ i, i < 6 → m.read (0x4B + i) = 0xFF ^^^ s.mem.read (0x45 + i)) ∧
        sameOutside m s.mem 0x4B 0x51) ∧
    (s.frameLen ≠ 136 → exec .csumaGen s = .next (errorState s 0x06 2 0xFF))

/-- R83: CSUMA_CHK's verdict, its error, and the frame. -/
def Obligations.CsumaChkComparesComplements : Prop :=
  ∀ s : State,
    (s.frameLen = 136 → checksumA s →
      exec .csumaChk s = .next { s with
        ctrl := 0x07, status := doneStatus s.status, errInfo := 0, outCheck := 1 }) ∧
    (s.frameLen = 136 → ¬ checksumA s →
      exec .csumaChk s = .next { s with
        ctrl := 0x07, status := doneStatus s.status, errInfo := 0, outCheck := 2 }) ∧
    (s.frameLen ≠ 136 → exec .csumaChk s = .next (checkErrorState s 0x07 0xFF))

/-- R84: the variant A round trip, in layout order, and in wire order through REV. -/
def Obligations.VariantARoundTrip : Prop :=
  ∀ s : State, inputErrorA s = none →
    (∃ t u : State, exec .encaRaw s = .next t ∧ exec .deca t = .next u ∧ roundTripA s u) ∧
    (∃ t r u : State, exec .enca s = .next t ∧ exec .rev t = .next r ∧ exec .deca r = .next u ∧ roundTripA s u)

/-- R85: a frame that passed DECA with check_OK, one bit of its checksum block flipped and decoded again, gives the same
state but for that bit and OUT_CHECK = 2. -/
def Obligations.VariantAChecksumBitFlipIsReported : Prop :=
  ∀ (s t : State) (i b : Nat), exec .deca s = .next t → t.outCheck = 1 → 11 ≤ i → i ≤ 16 → b < 8 →
    exec .deca (flipFrameBit t i b) = .next { flipFrameBit t i b with outCheck := 2 }

/-! ### Variant B -/

/-- R87, R88, R89, R90, R92: the frame ENCB and ENCB.raw write, FRAME_LEN, the error of each illegal input in order, and
the frame. -/
def Obligations.EncbWritesVariantBFrame : Prop :=
  ∀ s : State,
    (inputErrorB s = none →
      (∃ m : Memory,
        exec .encbRaw s = .next { s with
          ctrl := 0x18, status := doneStatus s.status, errInfo := 0, frameLen := 144, mem := m } ∧
        (∀ i, i < 18 → m.read (0x40 + i) = (frameB s).getD i 0) ∧ sameOutside m s.mem 0x40 0x52) ∧
      (∃ m : Memory,
        exec .encb s = .next { s with
          ctrl := 0x08, status := doneStatus s.status, errInfo := 0, frameLen := 144, mem := m } ∧
        (∀ i, i < 18 → m.read (0x40 + i) = rev8 ((frameB s).getD i 0)) ∧ sameOutside m s.mem 0x40 0x52)) ∧
    (∀ f, inputErrorB s = some f →
      exec .encbRaw s = .next (errorState s 0x18 1 f) ∧ exec .encb s = .next (errorState s 0x08 1 f))

/-- R91, R93, R94: the fields DECB delivers, the error of each structural test in order, and the frame. -/
def Obligations.DecbDecodesVariantBFrame : Prop :=
  ∀ s : State,
    (structureErrorB s = none → exec .decb s = .next (decodedB s)) ∧
    (∀ info, structureErrorB s = some info → exec .decb s = .next (decodeErrorState s 0x09 info))

/-- R95: CSUMB_GEN writes the sum of FRAME[0..16] mod 256 to FRAME[17] and nothing else. -/
def Obligations.CsumbGenWritesSum : Prop :=
  ∀ s : State,
    (s.frameLen = 144 →
      ∃ m : Memory,
        exec .csumbGen s = .next { s with ctrl := 0x0A, status := doneStatus s.status, errInfo := 0, mem := m } ∧
        m.read 0x51 = sumMod256 ((List.range 17).map fun i => s.mem.read (0x40 + i)) ∧
        sameOutside m s.mem 0x51 0x52) ∧
    (s.frameLen ≠ 144 → exec .csumbGen s = .next (errorState s 0x0A 2 0xFF))

/-- R96: CSUMB_CHK's verdict, its error, and the frame. -/
def Obligations.CsumbChkComparesSum : Prop :=
  ∀ s : State,
    (s.frameLen = 144 → checksumB s →
      exec .csumbChk s = .next { s with
        ctrl := 0x0B, status := doneStatus s.status, errInfo := 0, outCheck := 1 }) ∧
    (s.frameLen = 144 → ¬ checksumB s →
      exec .csumbChk s = .next { s with
        ctrl := 0x0B, status := doneStatus s.status, errInfo := 0, outCheck := 2 }) ∧
    (s.frameLen ≠ 144 → exec .csumbChk s = .next (checkErrorState s 0x0B 0xFF))

/-- R97: the variant B round trip, in layout order, and in wire order through REV. -/
def Obligations.VariantBRoundTrip : Prop :=
  ∀ s : State, inputErrorB s = none →
    (∃ t u : State, exec .encbRaw s = .next t ∧ exec .decb t = .next u ∧ roundTripB s u) ∧
    (∃ t r u : State, exec .encb s = .next t ∧ exec .rev t = .next r ∧ exec .decb r = .next u ∧ roundTripB s u)

/-- R98: a frame that passed DECB with check_OK, one bit flipped that enters the sum only, or a bit of the checksum byte,
and decoded again, gives the same state but for that bit and OUT_CHECK = 2. -/
def Obligations.VariantBSumOnlyBitFlipIsReported : Prop :=
  ∀ (s t : State) (i b : Nat), exec .decb s = .next t → t.outCheck = 1 → b < 8 →
    (i = 17 ∨ i = 8 ∨ i = 10 ∨ i = 11 ∨ i = 12 ∨ i = 13 ∨ (i = 7 ∧ 4 ≤ b) ∨ (i = 9 ∧ 6 ≤ b) ∨
      (i = 14 ∧ b ≠ (Config.params.econoBit : Nat))) →
    exec .decb (flipFrameBit t i b) = .next { flipFrameBit t i b with outCheck := 2 }

/-- R99: every successful ENCB leaves FRAME_LEN = 144, and in layout order bits 7:6 of byte 9 are 0b10 exactly when
IN_TEMP is 16 or 31, for every fan and vane. -/
def Obligations.BeeperMarksBoundaryTemperature : Prop :=
  ∀ s : State, inputErrorB s = none →
    (∃ t : State, exec .encbRaw s = .next t ∧ t.frameLen = 144 ∧
      (t.frame 9 >>> 6 = 0b10 ↔ s.inTemp = 16 ∨ s.inTemp = 31)) ∧
    (∃ t : State, exec .encb s = .next t ∧ t.frameLen = 144 ∧
      (rev8 (t.frame 9) >>> 6 = 0b10 ↔ s.inTemp = 16 ∨ s.inTemp = 31))

/-! ### The whole machine -/

/-- R102, R103: every operation completes in one of two ways. Without an error: DONE = 1, ERRINFO = 0, VALID set by DECA
and DECB only, OUT_CHECK written by those and the CHK operations only. With an error: nothing but CTRL, STATUS, ERRINFO,
and VALID and OUT_CHECK cleared where R103 says so. -/
def Obligations.EveryOperationCommitsWhole : Prop :=
  ∀ (i : Instr) (s : State), ∃ t : State, exec i s = .next t ∧ t.ctrl = encode i ∧ t.host = s.host ∧
    (t.status.extractLsb' 2 3 = 0 →
      t.status = (if i = .deca ∨ i = .decb then (s.status &&& 0xE0) ||| 0x03 else doneStatus s.status) ∧
      t.errInfo = 0 ∧
      (i ≠ .deca → i ≠ .decb → i ≠ .csumaChk → i ≠ .csumbChk → t.outCheck = s.outCheck)) ∧
    (t.status.extractLsb' 2 3 ≠ 0 →
      t = { s with
        ctrl := encode i
        status := (s.status &&& (if i = .deca ∨ i = .decb then 0xE0 else 0xE2)) ||| (t.status &&& 0x1C) ||| 0x01
        errInfo := t.errInfo
        outCheck := if i = .deca ∨ i = .decb ∨ i = .csumaChk ∨ i = .csumbChk then 0 else s.outCheck })

/-- R23: no CTRL write, legal or not, writes a command input register or a TOBIN operand register. -/
def Obligations.BlockNeverWritesInputs : Prop :=
  ∀ (s : State) (v : Byte), ∃ t : State, memWrite 0x00 v s = .next t ∧ sameCommandB s t ∧
    s.tbWidth = t.tbWidth ∧ s.tbOffset = t.tbOffset ∧ s.tbValueLo = t.tbValueLo ∧ s.tbValueHi = t.tbValueHi

/-- R18, R19, R24 to R27: the CTRL bytes that may change FRAME_LEN, SYM_LEN, the OUT_ registers, FRAME and SYM; every
other CTRL write leaves them. -/
def Obligations.OnlyNamedOperationsWrite : Prop :=
  ∀ (s : State) (v : Byte), ∃ t : State, memWrite 0x00 v s = .next t ∧
    (v ∉ ([0x05, 0x09] : List Byte) → t.decoded = s.decoded) ∧
    (v ∉ ([0x05, 0x07, 0x09, 0x0B] : List Byte) → t.outCheck = s.outCheck) ∧
    (v ∉ ([0x02, 0x04, 0x08, 0x14, 0x18] : List Byte) → t.frameLen = s.frameLen) ∧
    (v ≠ 0x01 → t.symLen = s.symLen ∧ sameOutside t.mem s.mem 0x40 0x52) ∧
    (v ∉ ([0x02, 0x03, 0x04, 0x06, 0x08, 0x0A, 0x14, 0x18] : List Byte) → sameOutside t.mem s.mem 0x60 0xF0)

/-- R2: every operation is a pure function of its operands: two states that agree on them get the same DONE, ERR,
ERRINFO, and VALID and OUT_CHECK where the operation's commit writes them, and, without an error, the same results. -/
def Obligations.OperationsReadOnlyTheirOperands : Prop :=
  ∀ (i : Instr) (s₁ s₂ : State), sameOperands i s₁ s₂ →
    ∃ t₁ t₂ : State, exec i s₁ = .next t₁ ∧ exec i s₂ = .next t₂ ∧ sameReport i t₁ t₂ ∧
      (t₁.status.extractLsb' 2 3 = 0 → sameResults i t₁ t₂)

/-- R38: writing the same CTRL byte twice gives the same state as writing it once, for every byte but REV's. The
premise is the canonical form of memory, the model's own choice (assumption log 6). -/
def Obligations.RepeatedCtrlWriteIsIdempotent : Prop :=
  ∀ (s : State) (v : Byte), MemoryOk s → v ≠ 0x03 →
    ∃ t : State, memWrite 0x00 v s = .next t ∧ memWrite 0x00 v t = .next t

/-- Every step keeps FRAME and SYM in canonical form, listing no address outside them (R26, R27). The list form is the
model's own choice (assumption log 6). -/
def Obligations.StepKeepsMemoryCanonical : Prop :=
  ∀ s t : State, MemoryOk s → step s = .next t → MemoryOk t

/-- R16, R17, R100: every step keeps STATUS and ERRINFO among the values the spec lets them hold. That a commit
carries bits 7:5 over is the model's reading (assumption log 8). -/
def Obligations.StepKeepsStatusLegal : Prop :=
  ∀ s t : State, StatusOk s → step s = .next t → StatusOk t

/-- R24, R25: every step keeps the OUT_ registers a whole variant A decode, a whole variant B decode, or untouched since
reset, and OUT_CHECK one of its three values. -/
def Obligations.StepKeepsOutputsLegal : Prop :=
  ∀ s t : State, OutputsOk s → step s = .next t → OutputsOk t

/-- R114: every step keeps the block in the reset state while the reset input is asserted. The level of the input is the
model's own field (assumption log 3). -/
def Obligations.StepKeepsResetHeld : Prop :=
  ∀ s t : State, ResetHeld s → step s = .next t → ResetHeld t

/-- The four invariants hold at reset, with the reset input released, the model's own choice (assumption log 19). -/
def Obligations.InvariantsHoldAtReset : Prop :=
  MemoryOk State.reset ∧ StatusOk State.reset ∧ OutputsOk State.reset ∧ ResetHeld State.reset ∧
    State.reset.host.resetLine = false
end

