-- ==== Sys2Proof/Laws/State.lean ====
section
/-! SUPPORT. What each field of State reads after each basic update of Machine/Ops.lean, and the composite updates in
terms of the basic ones. -/

namespace Sys2Proof.Machine

@[simp] theorem State.setCtrl_ctrl (s : State) (v : Byte) : (s.setCtrl v).ctrl = v := rfl
@[simp] theorem State.setCtrl_status (s : State) (v : Byte) : (s.setCtrl v).status = s.status := rfl
@[simp] theorem State.setCtrl_errInfo (s : State) (v : Byte) : (s.setCtrl v).errInfo = s.errInfo := rfl
@[simp] theorem State.setCtrl_frameLen (s : State) (v : Byte) : (s.setCtrl v).frameLen = s.frameLen := rfl
@[simp] theorem State.setCtrl_symLen (s : State) (v : Byte) : (s.setCtrl v).symLen = s.symLen := rfl
@[simp] theorem State.setCtrl_tbWidth (s : State) (v : Byte) : (s.setCtrl v).tbWidth = s.tbWidth := rfl
@[simp] theorem State.setCtrl_tbOffset (s : State) (v : Byte) : (s.setCtrl v).tbOffset = s.tbOffset := rfl
@[simp] theorem State.setCtrl_tbValueLo (s : State) (v : Byte) : (s.setCtrl v).tbValueLo = s.tbValueLo := rfl
@[simp] theorem State.setCtrl_tbValueHi (s : State) (v : Byte) : (s.setCtrl v).tbValueHi = s.tbValueHi := rfl
@[simp] theorem State.setCtrl_inPower (s : State) (v : Byte) : (s.setCtrl v).inPower = s.inPower := rfl
@[simp] theorem State.setCtrl_inMode (s : State) (v : Byte) : (s.setCtrl v).inMode = s.inMode := rfl
@[simp] theorem State.setCtrl_inTemp (s : State) (v : Byte) : (s.setCtrl v).inTemp = s.inTemp := rfl
@[simp] theorem State.setCtrl_inFan (s : State) (v : Byte) : (s.setCtrl v).inFan = s.inFan := rfl
@[simp] theorem State.setCtrl_inVane (s : State) (v : Byte) : (s.setCtrl v).inVane = s.inVane := rfl
@[simp] theorem State.setCtrl_inIsee (s : State) (v : Byte) : (s.setCtrl v).inIsee = s.inIsee := rfl
@[simp] theorem State.setCtrl_inEcono (s : State) (v : Byte) : (s.setCtrl v).inEcono = s.inEcono := rfl
@[simp] theorem State.setCtrl_inHour (s : State) (v : Byte) : (s.setCtrl v).inHour = s.inHour := rfl
@[simp] theorem State.setCtrl_inMinute (s : State) (v : Byte) : (s.setCtrl v).inMinute = s.inMinute := rfl
@[simp] theorem State.setCtrl_outVariant (s : State) (v : Byte) : (s.setCtrl v).outVariant = s.outVariant := rfl
@[simp] theorem State.setCtrl_outPower (s : State) (v : Byte) : (s.setCtrl v).outPower = s.outPower := rfl
@[simp] theorem State.setCtrl_outMode (s : State) (v : Byte) : (s.setCtrl v).outMode = s.outMode := rfl
@[simp] theorem State.setCtrl_outTemp (s : State) (v : Byte) : (s.setCtrl v).outTemp = s.outTemp := rfl
@[simp] theorem State.setCtrl_outFan (s : State) (v : Byte) : (s.setCtrl v).outFan = s.outFan := rfl
@[simp] theorem State.setCtrl_outVane (s : State) (v : Byte) : (s.setCtrl v).outVane = s.outVane := rfl
@[simp] theorem State.setCtrl_outIsee (s : State) (v : Byte) : (s.setCtrl v).outIsee = s.outIsee := rfl
@[simp] theorem State.setCtrl_outEcono (s : State) (v : Byte) : (s.setCtrl v).outEcono = s.outEcono := rfl
@[simp] theorem State.setCtrl_outTimer (s : State) (v : Byte) : (s.setCtrl v).outTimer = s.outTimer := rfl
@[simp] theorem State.setCtrl_outTimerOff (s : State) (v : Byte) : (s.setCtrl v).outTimerOff = s.outTimerOff := rfl
@[simp] theorem State.setCtrl_outTimerOn (s : State) (v : Byte) : (s.setCtrl v).outTimerOn = s.outTimerOn := rfl
@[simp] theorem State.setCtrl_outCheck (s : State) (v : Byte) : (s.setCtrl v).outCheck = s.outCheck := rfl
@[simp] theorem State.setCtrl_mem (s : State) (v : Byte) : (s.setCtrl v).mem = s.mem := rfl
@[simp] theorem State.setCtrl_host (s : State) (v : Byte) : (s.setCtrl v).host = s.host := rfl

@[simp] theorem State.setStatus_ctrl (s : State) (v : Byte) : (s.setStatus v).ctrl = s.ctrl := rfl
@[simp] theorem State.setStatus_status (s : State) (v : Byte) : (s.setStatus v).status = v := rfl
@[simp] theorem State.setStatus_errInfo (s : State) (v : Byte) : (s.setStatus v).errInfo = s.errInfo := rfl
@[simp] theorem State.setStatus_frameLen (s : State) (v : Byte) : (s.setStatus v).frameLen = s.frameLen := rfl
@[simp] theorem State.setStatus_symLen (s : State) (v : Byte) : (s.setStatus v).symLen = s.symLen := rfl
@[simp] theorem State.setStatus_tbWidth (s : State) (v : Byte) : (s.setStatus v).tbWidth = s.tbWidth := rfl
@[simp] theorem State.setStatus_tbOffset (s : State) (v : Byte) : (s.setStatus v).tbOffset = s.tbOffset := rfl
@[simp] theorem State.setStatus_tbValueLo (s : State) (v : Byte) : (s.setStatus v).tbValueLo = s.tbValueLo := rfl
@[simp] theorem State.setStatus_tbValueHi (s : State) (v : Byte) : (s.setStatus v).tbValueHi = s.tbValueHi := rfl
@[simp] theorem State.setStatus_inPower (s : State) (v : Byte) : (s.setStatus v).inPower = s.inPower := rfl
@[simp] theorem State.setStatus_inMode (s : State) (v : Byte) : (s.setStatus v).inMode = s.inMode := rfl
@[simp] theorem State.setStatus_inTemp (s : State) (v : Byte) : (s.setStatus v).inTemp = s.inTemp := rfl
@[simp] theorem State.setStatus_inFan (s : State) (v : Byte) : (s.setStatus v).inFan = s.inFan := rfl
@[simp] theorem State.setStatus_inVane (s : State) (v : Byte) : (s.setStatus v).inVane = s.inVane := rfl
@[simp] theorem State.setStatus_inIsee (s : State) (v : Byte) : (s.setStatus v).inIsee = s.inIsee := rfl
@[simp] theorem State.setStatus_inEcono (s : State) (v : Byte) : (s.setStatus v).inEcono = s.inEcono := rfl
@[simp] theorem State.setStatus_inHour (s : State) (v : Byte) : (s.setStatus v).inHour = s.inHour := rfl
@[simp] theorem State.setStatus_inMinute (s : State) (v : Byte) : (s.setStatus v).inMinute = s.inMinute := rfl
@[simp] theorem State.setStatus_outVariant (s : State) (v : Byte) : (s.setStatus v).outVariant = s.outVariant := rfl
@[simp] theorem State.setStatus_outPower (s : State) (v : Byte) : (s.setStatus v).outPower = s.outPower := rfl
@[simp] theorem State.setStatus_outMode (s : State) (v : Byte) : (s.setStatus v).outMode = s.outMode := rfl
@[simp] theorem State.setStatus_outTemp (s : State) (v : Byte) : (s.setStatus v).outTemp = s.outTemp := rfl
@[simp] theorem State.setStatus_outFan (s : State) (v : Byte) : (s.setStatus v).outFan = s.outFan := rfl
@[simp] theorem State.setStatus_outVane (s : State) (v : Byte) : (s.setStatus v).outVane = s.outVane := rfl
@[simp] theorem State.setStatus_outIsee (s : State) (v : Byte) : (s.setStatus v).outIsee = s.outIsee := rfl
@[simp] theorem State.setStatus_outEcono (s : State) (v : Byte) : (s.setStatus v).outEcono = s.outEcono := rfl
@[simp] theorem State.setStatus_outTimer (s : State) (v : Byte) : (s.setStatus v).outTimer = s.outTimer := rfl
@[simp] theorem State.setStatus_outTimerOff (s : State) (v : Byte) : (s.setStatus v).outTimerOff = s.outTimerOff := rfl
@[simp] theorem State.setStatus_outTimerOn (s : State) (v : Byte) : (s.setStatus v).outTimerOn = s.outTimerOn := rfl
@[simp] theorem State.setStatus_outCheck (s : State) (v : Byte) : (s.setStatus v).outCheck = s.outCheck := rfl
@[simp] theorem State.setStatus_mem (s : State) (v : Byte) : (s.setStatus v).mem = s.mem := rfl
@[simp] theorem State.setStatus_host (s : State) (v : Byte) : (s.setStatus v).host = s.host := rfl

@[simp] theorem State.setErrInfo_ctrl (s : State) (v : Byte) : (s.setErrInfo v).ctrl = s.ctrl := rfl
@[simp] theorem State.setErrInfo_status (s : State) (v : Byte) : (s.setErrInfo v).status = s.status := rfl
@[simp] theorem State.setErrInfo_errInfo (s : State) (v : Byte) : (s.setErrInfo v).errInfo = v := rfl
@[simp] theorem State.setErrInfo_frameLen (s : State) (v : Byte) : (s.setErrInfo v).frameLen = s.frameLen := rfl
@[simp] theorem State.setErrInfo_symLen (s : State) (v : Byte) : (s.setErrInfo v).symLen = s.symLen := rfl
@[simp] theorem State.setErrInfo_tbWidth (s : State) (v : Byte) : (s.setErrInfo v).tbWidth = s.tbWidth := rfl
@[simp] theorem State.setErrInfo_tbOffset (s : State) (v : Byte) : (s.setErrInfo v).tbOffset = s.tbOffset := rfl
@[simp] theorem State.setErrInfo_tbValueLo (s : State) (v : Byte) : (s.setErrInfo v).tbValueLo = s.tbValueLo := rfl
@[simp] theorem State.setErrInfo_tbValueHi (s : State) (v : Byte) : (s.setErrInfo v).tbValueHi = s.tbValueHi := rfl
@[simp] theorem State.setErrInfo_inPower (s : State) (v : Byte) : (s.setErrInfo v).inPower = s.inPower := rfl
@[simp] theorem State.setErrInfo_inMode (s : State) (v : Byte) : (s.setErrInfo v).inMode = s.inMode := rfl
@[simp] theorem State.setErrInfo_inTemp (s : State) (v : Byte) : (s.setErrInfo v).inTemp = s.inTemp := rfl
@[simp] theorem State.setErrInfo_inFan (s : State) (v : Byte) : (s.setErrInfo v).inFan = s.inFan := rfl
@[simp] theorem State.setErrInfo_inVane (s : State) (v : Byte) : (s.setErrInfo v).inVane = s.inVane := rfl
@[simp] theorem State.setErrInfo_inIsee (s : State) (v : Byte) : (s.setErrInfo v).inIsee = s.inIsee := rfl
@[simp] theorem State.setErrInfo_inEcono (s : State) (v : Byte) : (s.setErrInfo v).inEcono = s.inEcono := rfl
@[simp] theorem State.setErrInfo_inHour (s : State) (v : Byte) : (s.setErrInfo v).inHour = s.inHour := rfl
@[simp] theorem State.setErrInfo_inMinute (s : State) (v : Byte) : (s.setErrInfo v).inMinute = s.inMinute := rfl
@[simp] theorem State.setErrInfo_outVariant (s : State) (v : Byte) : (s.setErrInfo v).outVariant = s.outVariant := rfl
@[simp] theorem State.setErrInfo_outPower (s : State) (v : Byte) : (s.setErrInfo v).outPower = s.outPower := rfl
@[simp] theorem State.setErrInfo_outMode (s : State) (v : Byte) : (s.setErrInfo v).outMode = s.outMode := rfl
@[simp] theorem State.setErrInfo_outTemp (s : State) (v : Byte) : (s.setErrInfo v).outTemp = s.outTemp := rfl
@[simp] theorem State.setErrInfo_outFan (s : State) (v : Byte) : (s.setErrInfo v).outFan = s.outFan := rfl
@[simp] theorem State.setErrInfo_outVane (s : State) (v : Byte) : (s.setErrInfo v).outVane = s.outVane := rfl
@[simp] theorem State.setErrInfo_outIsee (s : State) (v : Byte) : (s.setErrInfo v).outIsee = s.outIsee := rfl
@[simp] theorem State.setErrInfo_outEcono (s : State) (v : Byte) : (s.setErrInfo v).outEcono = s.outEcono := rfl
@[simp] theorem State.setErrInfo_outTimer (s : State) (v : Byte) : (s.setErrInfo v).outTimer = s.outTimer := rfl
@[simp] theorem State.setErrInfo_outTimerOff (s : State) (v : Byte) : (s.setErrInfo v).outTimerOff = s.outTimerOff := rfl
@[simp] theorem State.setErrInfo_outTimerOn (s : State) (v : Byte) : (s.setErrInfo v).outTimerOn = s.outTimerOn := rfl
@[simp] theorem State.setErrInfo_outCheck (s : State) (v : Byte) : (s.setErrInfo v).outCheck = s.outCheck := rfl
@[simp] theorem State.setErrInfo_mem (s : State) (v : Byte) : (s.setErrInfo v).mem = s.mem := rfl
@[simp] theorem State.setErrInfo_host (s : State) (v : Byte) : (s.setErrInfo v).host = s.host := rfl

@[simp] theorem State.setFrameLen_ctrl (s : State) (v : Byte) : (s.setFrameLen v).ctrl = s.ctrl := rfl
@[simp] theorem State.setFrameLen_status (s : State) (v : Byte) : (s.setFrameLen v).status = s.status := rfl
@[simp] theorem State.setFrameLen_errInfo (s : State) (v : Byte) : (s.setFrameLen v).errInfo = s.errInfo := rfl
@[simp] theorem State.setFrameLen_frameLen (s : State) (v : Byte) : (s.setFrameLen v).frameLen = v := rfl
@[simp] theorem State.setFrameLen_symLen (s : State) (v : Byte) : (s.setFrameLen v).symLen = s.symLen := rfl
@[simp] theorem State.setFrameLen_tbWidth (s : State) (v : Byte) : (s.setFrameLen v).tbWidth = s.tbWidth := rfl
@[simp] theorem State.setFrameLen_tbOffset (s : State) (v : Byte) : (s.setFrameLen v).tbOffset = s.tbOffset := rfl
@[simp] theorem State.setFrameLen_tbValueLo (s : State) (v : Byte) : (s.setFrameLen v).tbValueLo = s.tbValueLo := rfl
@[simp] theorem State.setFrameLen_tbValueHi (s : State) (v : Byte) : (s.setFrameLen v).tbValueHi = s.tbValueHi := rfl
@[simp] theorem State.setFrameLen_inPower (s : State) (v : Byte) : (s.setFrameLen v).inPower = s.inPower := rfl
@[simp] theorem State.setFrameLen_inMode (s : State) (v : Byte) : (s.setFrameLen v).inMode = s.inMode := rfl
@[simp] theorem State.setFrameLen_inTemp (s : State) (v : Byte) : (s.setFrameLen v).inTemp = s.inTemp := rfl
@[simp] theorem State.setFrameLen_inFan (s : State) (v : Byte) : (s.setFrameLen v).inFan = s.inFan := rfl
@[simp] theorem State.setFrameLen_inVane (s : State) (v : Byte) : (s.setFrameLen v).inVane = s.inVane := rfl
@[simp] theorem State.setFrameLen_inIsee (s : State) (v : Byte) : (s.setFrameLen v).inIsee = s.inIsee := rfl
@[simp] theorem State.setFrameLen_inEcono (s : State) (v : Byte) : (s.setFrameLen v).inEcono = s.inEcono := rfl
@[simp] theorem State.setFrameLen_inHour (s : State) (v : Byte) : (s.setFrameLen v).inHour = s.inHour := rfl
@[simp] theorem State.setFrameLen_inMinute (s : State) (v : Byte) : (s.setFrameLen v).inMinute = s.inMinute := rfl
@[simp] theorem State.setFrameLen_outVariant (s : State) (v : Byte) : (s.setFrameLen v).outVariant = s.outVariant := rfl
@[simp] theorem State.setFrameLen_outPower (s : State) (v : Byte) : (s.setFrameLen v).outPower = s.outPower := rfl
@[simp] theorem State.setFrameLen_outMode (s : State) (v : Byte) : (s.setFrameLen v).outMode = s.outMode := rfl
@[simp] theorem State.setFrameLen_outTemp (s : State) (v : Byte) : (s.setFrameLen v).outTemp = s.outTemp := rfl
@[simp] theorem State.setFrameLen_outFan (s : State) (v : Byte) : (s.setFrameLen v).outFan = s.outFan := rfl
@[simp] theorem State.setFrameLen_outVane (s : State) (v : Byte) : (s.setFrameLen v).outVane = s.outVane := rfl
@[simp] theorem State.setFrameLen_outIsee (s : State) (v : Byte) : (s.setFrameLen v).outIsee = s.outIsee := rfl
@[simp] theorem State.setFrameLen_outEcono (s : State) (v : Byte) : (s.setFrameLen v).outEcono = s.outEcono := rfl
@[simp] theorem State.setFrameLen_outTimer (s : State) (v : Byte) : (s.setFrameLen v).outTimer = s.outTimer := rfl
@[simp] theorem State.setFrameLen_outTimerOff (s : State) (v : Byte) : (s.setFrameLen v).outTimerOff = s.outTimerOff := rfl
@[simp] theorem State.setFrameLen_outTimerOn (s : State) (v : Byte) : (s.setFrameLen v).outTimerOn = s.outTimerOn := rfl
@[simp] theorem State.setFrameLen_outCheck (s : State) (v : Byte) : (s.setFrameLen v).outCheck = s.outCheck := rfl
@[simp] theorem State.setFrameLen_mem (s : State) (v : Byte) : (s.setFrameLen v).mem = s.mem := rfl
@[simp] theorem State.setFrameLen_host (s : State) (v : Byte) : (s.setFrameLen v).host = s.host := rfl

@[simp] theorem State.setSymLen_ctrl (s : State) (v : Byte) : (s.setSymLen v).ctrl = s.ctrl := rfl
@[simp] theorem State.setSymLen_status (s : State) (v : Byte) : (s.setSymLen v).status = s.status := rfl
@[simp] theorem State.setSymLen_errInfo (s : State) (v : Byte) : (s.setSymLen v).errInfo = s.errInfo := rfl
@[simp] theorem State.setSymLen_frameLen (s : State) (v : Byte) : (s.setSymLen v).frameLen = s.frameLen := rfl
@[simp] theorem State.setSymLen_symLen (s : State) (v : Byte) : (s.setSymLen v).symLen = v := rfl
@[simp] theorem State.setSymLen_tbWidth (s : State) (v : Byte) : (s.setSymLen v).tbWidth = s.tbWidth := rfl
@[simp] theorem State.setSymLen_tbOffset (s : State) (v : Byte) : (s.setSymLen v).tbOffset = s.tbOffset := rfl
@[simp] theorem State.setSymLen_tbValueLo (s : State) (v : Byte) : (s.setSymLen v).tbValueLo = s.tbValueLo := rfl
@[simp] theorem State.setSymLen_tbValueHi (s : State) (v : Byte) : (s.setSymLen v).tbValueHi = s.tbValueHi := rfl
@[simp] theorem State.setSymLen_inPower (s : State) (v : Byte) : (s.setSymLen v).inPower = s.inPower := rfl
@[simp] theorem State.setSymLen_inMode (s : State) (v : Byte) : (s.setSymLen v).inMode = s.inMode := rfl
@[simp] theorem State.setSymLen_inTemp (s : State) (v : Byte) : (s.setSymLen v).inTemp = s.inTemp := rfl
@[simp] theorem State.setSymLen_inFan (s : State) (v : Byte) : (s.setSymLen v).inFan = s.inFan := rfl
@[simp] theorem State.setSymLen_inVane (s : State) (v : Byte) : (s.setSymLen v).inVane = s.inVane := rfl
@[simp] theorem State.setSymLen_inIsee (s : State) (v : Byte) : (s.setSymLen v).inIsee = s.inIsee := rfl
@[simp] theorem State.setSymLen_inEcono (s : State) (v : Byte) : (s.setSymLen v).inEcono = s.inEcono := rfl
@[simp] theorem State.setSymLen_inHour (s : State) (v : Byte) : (s.setSymLen v).inHour = s.inHour := rfl
@[simp] theorem State.setSymLen_inMinute (s : State) (v : Byte) : (s.setSymLen v).inMinute = s.inMinute := rfl
@[simp] theorem State.setSymLen_outVariant (s : State) (v : Byte) : (s.setSymLen v).outVariant = s.outVariant := rfl
@[simp] theorem State.setSymLen_outPower (s : State) (v : Byte) : (s.setSymLen v).outPower = s.outPower := rfl
@[simp] theorem State.setSymLen_outMode (s : State) (v : Byte) : (s.setSymLen v).outMode = s.outMode := rfl
@[simp] theorem State.setSymLen_outTemp (s : State) (v : Byte) : (s.setSymLen v).outTemp = s.outTemp := rfl
@[simp] theorem State.setSymLen_outFan (s : State) (v : Byte) : (s.setSymLen v).outFan = s.outFan := rfl
@[simp] theorem State.setSymLen_outVane (s : State) (v : Byte) : (s.setSymLen v).outVane = s.outVane := rfl
@[simp] theorem State.setSymLen_outIsee (s : State) (v : Byte) : (s.setSymLen v).outIsee = s.outIsee := rfl
@[simp] theorem State.setSymLen_outEcono (s : State) (v : Byte) : (s.setSymLen v).outEcono = s.outEcono := rfl
@[simp] theorem State.setSymLen_outTimer (s : State) (v : Byte) : (s.setSymLen v).outTimer = s.outTimer := rfl
@[simp] theorem State.setSymLen_outTimerOff (s : State) (v : Byte) : (s.setSymLen v).outTimerOff = s.outTimerOff := rfl
@[simp] theorem State.setSymLen_outTimerOn (s : State) (v : Byte) : (s.setSymLen v).outTimerOn = s.outTimerOn := rfl
@[simp] theorem State.setSymLen_outCheck (s : State) (v : Byte) : (s.setSymLen v).outCheck = s.outCheck := rfl
@[simp] theorem State.setSymLen_mem (s : State) (v : Byte) : (s.setSymLen v).mem = s.mem := rfl
@[simp] theorem State.setSymLen_host (s : State) (v : Byte) : (s.setSymLen v).host = s.host := rfl

@[simp] theorem State.setOutCheck_ctrl (s : State) (v : Byte) : (s.setOutCheck v).ctrl = s.ctrl := rfl
@[simp] theorem State.setOutCheck_status (s : State) (v : Byte) : (s.setOutCheck v).status = s.status := rfl
@[simp] theorem State.setOutCheck_errInfo (s : State) (v : Byte) : (s.setOutCheck v).errInfo = s.errInfo := rfl
@[simp] theorem State.setOutCheck_frameLen (s : State) (v : Byte) : (s.setOutCheck v).frameLen = s.frameLen := rfl
@[simp] theorem State.setOutCheck_symLen (s : State) (v : Byte) : (s.setOutCheck v).symLen = s.symLen := rfl
@[simp] theorem State.setOutCheck_tbWidth (s : State) (v : Byte) : (s.setOutCheck v).tbWidth = s.tbWidth := rfl
@[simp] theorem State.setOutCheck_tbOffset (s : State) (v : Byte) : (s.setOutCheck v).tbOffset = s.tbOffset := rfl
@[simp] theorem State.setOutCheck_tbValueLo (s : State) (v : Byte) : (s.setOutCheck v).tbValueLo = s.tbValueLo := rfl
@[simp] theorem State.setOutCheck_tbValueHi (s : State) (v : Byte) : (s.setOutCheck v).tbValueHi = s.tbValueHi := rfl
@[simp] theorem State.setOutCheck_inPower (s : State) (v : Byte) : (s.setOutCheck v).inPower = s.inPower := rfl
@[simp] theorem State.setOutCheck_inMode (s : State) (v : Byte) : (s.setOutCheck v).inMode = s.inMode := rfl
@[simp] theorem State.setOutCheck_inTemp (s : State) (v : Byte) : (s.setOutCheck v).inTemp = s.inTemp := rfl
@[simp] theorem State.setOutCheck_inFan (s : State) (v : Byte) : (s.setOutCheck v).inFan = s.inFan := rfl
@[simp] theorem State.setOutCheck_inVane (s : State) (v : Byte) : (s.setOutCheck v).inVane = s.inVane := rfl
@[simp] theorem State.setOutCheck_inIsee (s : State) (v : Byte) : (s.setOutCheck v).inIsee = s.inIsee := rfl
@[simp] theorem State.setOutCheck_inEcono (s : State) (v : Byte) : (s.setOutCheck v).inEcono = s.inEcono := rfl
@[simp] theorem State.setOutCheck_inHour (s : State) (v : Byte) : (s.setOutCheck v).inHour = s.inHour := rfl
@[simp] theorem State.setOutCheck_inMinute (s : State) (v : Byte) : (s.setOutCheck v).inMinute = s.inMinute := rfl
@[simp] theorem State.setOutCheck_outVariant (s : State) (v : Byte) : (s.setOutCheck v).outVariant = s.outVariant := rfl
@[simp] theorem State.setOutCheck_outPower (s : State) (v : Byte) : (s.setOutCheck v).outPower = s.outPower := rfl
@[simp] theorem State.setOutCheck_outMode (s : State) (v : Byte) : (s.setOutCheck v).outMode = s.outMode := rfl
@[simp] theorem State.setOutCheck_outTemp (s : State) (v : Byte) : (s.setOutCheck v).outTemp = s.outTemp := rfl
@[simp] theorem State.setOutCheck_outFan (s : State) (v : Byte) : (s.setOutCheck v).outFan = s.outFan := rfl
@[simp] theorem State.setOutCheck_outVane (s : State) (v : Byte) : (s.setOutCheck v).outVane = s.outVane := rfl
@[simp] theorem State.setOutCheck_outIsee (s : State) (v : Byte) : (s.setOutCheck v).outIsee = s.outIsee := rfl
@[simp] theorem State.setOutCheck_outEcono (s : State) (v : Byte) : (s.setOutCheck v).outEcono = s.outEcono := rfl
@[simp] theorem State.setOutCheck_outTimer (s : State) (v : Byte) : (s.setOutCheck v).outTimer = s.outTimer := rfl
@[simp] theorem State.setOutCheck_outTimerOff (s : State) (v : Byte) : (s.setOutCheck v).outTimerOff = s.outTimerOff := rfl
@[simp] theorem State.setOutCheck_outTimerOn (s : State) (v : Byte) : (s.setOutCheck v).outTimerOn = s.outTimerOn := rfl
@[simp] theorem State.setOutCheck_outCheck (s : State) (v : Byte) : (s.setOutCheck v).outCheck = v := rfl
@[simp] theorem State.setOutCheck_mem (s : State) (v : Byte) : (s.setOutCheck v).mem = s.mem := rfl
@[simp] theorem State.setOutCheck_host (s : State) (v : Byte) : (s.setOutCheck v).host = s.host := rfl

@[simp] theorem State.setMem_ctrl (s : State) (v : Memory) : (s.setMem v).ctrl = s.ctrl := rfl
@[simp] theorem State.setMem_status (s : State) (v : Memory) : (s.setMem v).status = s.status := rfl
@[simp] theorem State.setMem_errInfo (s : State) (v : Memory) : (s.setMem v).errInfo = s.errInfo := rfl
@[simp] theorem State.setMem_frameLen (s : State) (v : Memory) : (s.setMem v).frameLen = s.frameLen := rfl
@[simp] theorem State.setMem_symLen (s : State) (v : Memory) : (s.setMem v).symLen = s.symLen := rfl
@[simp] theorem State.setMem_tbWidth (s : State) (v : Memory) : (s.setMem v).tbWidth = s.tbWidth := rfl
@[simp] theorem State.setMem_tbOffset (s : State) (v : Memory) : (s.setMem v).tbOffset = s.tbOffset := rfl
@[simp] theorem State.setMem_tbValueLo (s : State) (v : Memory) : (s.setMem v).tbValueLo = s.tbValueLo := rfl
@[simp] theorem State.setMem_tbValueHi (s : State) (v : Memory) : (s.setMem v).tbValueHi = s.tbValueHi := rfl
@[simp] theorem State.setMem_inPower (s : State) (v : Memory) : (s.setMem v).inPower = s.inPower := rfl
@[simp] theorem State.setMem_inMode (s : State) (v : Memory) : (s.setMem v).inMode = s.inMode := rfl
@[simp] theorem State.setMem_inTemp (s : State) (v : Memory) : (s.setMem v).inTemp = s.inTemp := rfl
@[simp] theorem State.setMem_inFan (s : State) (v : Memory) : (s.setMem v).inFan = s.inFan := rfl
@[simp] theorem State.setMem_inVane (s : State) (v : Memory) : (s.setMem v).inVane = s.inVane := rfl
@[simp] theorem State.setMem_inIsee (s : State) (v : Memory) : (s.setMem v).inIsee = s.inIsee := rfl
@[simp] theorem State.setMem_inEcono (s : State) (v : Memory) : (s.setMem v).inEcono = s.inEcono := rfl
@[simp] theorem State.setMem_inHour (s : State) (v : Memory) : (s.setMem v).inHour = s.inHour := rfl
@[simp] theorem State.setMem_inMinute (s : State) (v : Memory) : (s.setMem v).inMinute = s.inMinute := rfl
@[simp] theorem State.setMem_outVariant (s : State) (v : Memory) : (s.setMem v).outVariant = s.outVariant := rfl
@[simp] theorem State.setMem_outPower (s : State) (v : Memory) : (s.setMem v).outPower = s.outPower := rfl
@[simp] theorem State.setMem_outMode (s : State) (v : Memory) : (s.setMem v).outMode = s.outMode := rfl
@[simp] theorem State.setMem_outTemp (s : State) (v : Memory) : (s.setMem v).outTemp = s.outTemp := rfl
@[simp] theorem State.setMem_outFan (s : State) (v : Memory) : (s.setMem v).outFan = s.outFan := rfl
@[simp] theorem State.setMem_outVane (s : State) (v : Memory) : (s.setMem v).outVane = s.outVane := rfl
@[simp] theorem State.setMem_outIsee (s : State) (v : Memory) : (s.setMem v).outIsee = s.outIsee := rfl
@[simp] theorem State.setMem_outEcono (s : State) (v : Memory) : (s.setMem v).outEcono = s.outEcono := rfl
@[simp] theorem State.setMem_outTimer (s : State) (v : Memory) : (s.setMem v).outTimer = s.outTimer := rfl
@[simp] theorem State.setMem_outTimerOff (s : State) (v : Memory) : (s.setMem v).outTimerOff = s.outTimerOff := rfl
@[simp] theorem State.setMem_outTimerOn (s : State) (v : Memory) : (s.setMem v).outTimerOn = s.outTimerOn := rfl
@[simp] theorem State.setMem_outCheck (s : State) (v : Memory) : (s.setMem v).outCheck = s.outCheck := rfl
@[simp] theorem State.setMem_mem (s : State) (v : Memory) : (s.setMem v).mem = v := rfl
@[simp] theorem State.setMem_host (s : State) (v : Memory) : (s.setMem v).host = s.host := rfl

@[simp] theorem State.setHost_ctrl (s : State) (v : HostSide) : (s.setHost v).ctrl = s.ctrl := rfl
@[simp] theorem State.setHost_status (s : State) (v : HostSide) : (s.setHost v).status = s.status := rfl
@[simp] theorem State.setHost_errInfo (s : State) (v : HostSide) : (s.setHost v).errInfo = s.errInfo := rfl
@[simp] theorem State.setHost_frameLen (s : State) (v : HostSide) : (s.setHost v).frameLen = s.frameLen := rfl
@[simp] theorem State.setHost_symLen (s : State) (v : HostSide) : (s.setHost v).symLen = s.symLen := rfl
@[simp] theorem State.setHost_tbWidth (s : State) (v : HostSide) : (s.setHost v).tbWidth = s.tbWidth := rfl
@[simp] theorem State.setHost_tbOffset (s : State) (v : HostSide) : (s.setHost v).tbOffset = s.tbOffset := rfl
@[simp] theorem State.setHost_tbValueLo (s : State) (v : HostSide) : (s.setHost v).tbValueLo = s.tbValueLo := rfl
@[simp] theorem State.setHost_tbValueHi (s : State) (v : HostSide) : (s.setHost v).tbValueHi = s.tbValueHi := rfl
@[simp] theorem State.setHost_inPower (s : State) (v : HostSide) : (s.setHost v).inPower = s.inPower := rfl
@[simp] theorem State.setHost_inMode (s : State) (v : HostSide) : (s.setHost v).inMode = s.inMode := rfl
@[simp] theorem State.setHost_inTemp (s : State) (v : HostSide) : (s.setHost v).inTemp = s.inTemp := rfl
@[simp] theorem State.setHost_inFan (s : State) (v : HostSide) : (s.setHost v).inFan = s.inFan := rfl
@[simp] theorem State.setHost_inVane (s : State) (v : HostSide) : (s.setHost v).inVane = s.inVane := rfl
@[simp] theorem State.setHost_inIsee (s : State) (v : HostSide) : (s.setHost v).inIsee = s.inIsee := rfl
@[simp] theorem State.setHost_inEcono (s : State) (v : HostSide) : (s.setHost v).inEcono = s.inEcono := rfl
@[simp] theorem State.setHost_inHour (s : State) (v : HostSide) : (s.setHost v).inHour = s.inHour := rfl
@[simp] theorem State.setHost_inMinute (s : State) (v : HostSide) : (s.setHost v).inMinute = s.inMinute := rfl
@[simp] theorem State.setHost_outVariant (s : State) (v : HostSide) : (s.setHost v).outVariant = s.outVariant := rfl
@[simp] theorem State.setHost_outPower (s : State) (v : HostSide) : (s.setHost v).outPower = s.outPower := rfl
@[simp] theorem State.setHost_outMode (s : State) (v : HostSide) : (s.setHost v).outMode = s.outMode := rfl
@[simp] theorem State.setHost_outTemp (s : State) (v : HostSide) : (s.setHost v).outTemp = s.outTemp := rfl
@[simp] theorem State.setHost_outFan (s : State) (v : HostSide) : (s.setHost v).outFan = s.outFan := rfl
@[simp] theorem State.setHost_outVane (s : State) (v : HostSide) : (s.setHost v).outVane = s.outVane := rfl
@[simp] theorem State.setHost_outIsee (s : State) (v : HostSide) : (s.setHost v).outIsee = s.outIsee := rfl
@[simp] theorem State.setHost_outEcono (s : State) (v : HostSide) : (s.setHost v).outEcono = s.outEcono := rfl
@[simp] theorem State.setHost_outTimer (s : State) (v : HostSide) : (s.setHost v).outTimer = s.outTimer := rfl
@[simp] theorem State.setHost_outTimerOff (s : State) (v : HostSide) : (s.setHost v).outTimerOff = s.outTimerOff := rfl
@[simp] theorem State.setHost_outTimerOn (s : State) (v : HostSide) : (s.setHost v).outTimerOn = s.outTimerOn := rfl
@[simp] theorem State.setHost_outCheck (s : State) (v : HostSide) : (s.setHost v).outCheck = s.outCheck := rfl
@[simp] theorem State.setHost_mem (s : State) (v : HostSide) : (s.setHost v).mem = s.mem := rfl
@[simp] theorem State.setHost_host (s : State) (v : HostSide) : (s.setHost v).host = v := rfl

@[simp] theorem State.setDecoded_ctrl (s : State) (d : Decoded) : (s.setDecoded d).ctrl = s.ctrl := rfl
@[simp] theorem State.setDecoded_status (s : State) (d : Decoded) : (s.setDecoded d).status = s.status := rfl
@[simp] theorem State.setDecoded_errInfo (s : State) (d : Decoded) : (s.setDecoded d).errInfo = s.errInfo := rfl
@[simp] theorem State.setDecoded_frameLen (s : State) (d : Decoded) : (s.setDecoded d).frameLen = s.frameLen := rfl
@[simp] theorem State.setDecoded_symLen (s : State) (d : Decoded) : (s.setDecoded d).symLen = s.symLen := rfl
@[simp] theorem State.setDecoded_tbWidth (s : State) (d : Decoded) : (s.setDecoded d).tbWidth = s.tbWidth := rfl
@[simp] theorem State.setDecoded_tbOffset (s : State) (d : Decoded) : (s.setDecoded d).tbOffset = s.tbOffset := rfl
@[simp] theorem State.setDecoded_tbValueLo (s : State) (d : Decoded) : (s.setDecoded d).tbValueLo = s.tbValueLo := rfl
@[simp] theorem State.setDecoded_tbValueHi (s : State) (d : Decoded) : (s.setDecoded d).tbValueHi = s.tbValueHi := rfl
@[simp] theorem State.setDecoded_inPower (s : State) (d : Decoded) : (s.setDecoded d).inPower = s.inPower := rfl
@[simp] theorem State.setDecoded_inMode (s : State) (d : Decoded) : (s.setDecoded d).inMode = s.inMode := rfl
@[simp] theorem State.setDecoded_inTemp (s : State) (d : Decoded) : (s.setDecoded d).inTemp = s.inTemp := rfl
@[simp] theorem State.setDecoded_inFan (s : State) (d : Decoded) : (s.setDecoded d).inFan = s.inFan := rfl
@[simp] theorem State.setDecoded_inVane (s : State) (d : Decoded) : (s.setDecoded d).inVane = s.inVane := rfl
@[simp] theorem State.setDecoded_inIsee (s : State) (d : Decoded) : (s.setDecoded d).inIsee = s.inIsee := rfl
@[simp] theorem State.setDecoded_inEcono (s : State) (d : Decoded) : (s.setDecoded d).inEcono = s.inEcono := rfl
@[simp] theorem State.setDecoded_inHour (s : State) (d : Decoded) : (s.setDecoded d).inHour = s.inHour := rfl
@[simp] theorem State.setDecoded_inMinute (s : State) (d : Decoded) : (s.setDecoded d).inMinute = s.inMinute := rfl
@[simp] theorem State.setDecoded_outVariant (s : State) (d : Decoded) : (s.setDecoded d).outVariant = d.variant := rfl
@[simp] theorem State.setDecoded_outPower (s : State) (d : Decoded) : (s.setDecoded d).outPower = d.power := rfl
@[simp] theorem State.setDecoded_outMode (s : State) (d : Decoded) : (s.setDecoded d).outMode = d.mode := rfl
@[simp] theorem State.setDecoded_outTemp (s : State) (d : Decoded) : (s.setDecoded d).outTemp = d.temp := rfl
@[simp] theorem State.setDecoded_outFan (s : State) (d : Decoded) : (s.setDecoded d).outFan = d.fan := rfl
@[simp] theorem State.setDecoded_outVane (s : State) (d : Decoded) : (s.setDecoded d).outVane = d.vane := rfl
@[simp] theorem State.setDecoded_outIsee (s : State) (d : Decoded) : (s.setDecoded d).outIsee = d.isee := rfl
@[simp] theorem State.setDecoded_outEcono (s : State) (d : Decoded) : (s.setDecoded d).outEcono = d.econo := rfl
@[simp] theorem State.setDecoded_outTimer (s : State) (d : Decoded) : (s.setDecoded d).outTimer = d.timer := rfl
@[simp] theorem State.setDecoded_outTimerOff (s : State) (d : Decoded) : (s.setDecoded d).outTimerOff = d.timerOff := rfl
@[simp] theorem State.setDecoded_outTimerOn (s : State) (d : Decoded) : (s.setDecoded d).outTimerOn = d.timerOn := rfl
@[simp] theorem State.setDecoded_outCheck (s : State) (d : Decoded) : (s.setDecoded d).outCheck = s.outCheck := rfl
@[simp] theorem State.setDecoded_mem (s : State) (d : Decoded) : (s.setDecoded d).mem = s.mem := rfl
@[simp] theorem State.setDecoded_host (s : State) (d : Decoded) : (s.setDecoded d).host = s.host := rfl

@[simp] theorem State.setDecoded_decoded (s : State) (d : Decoded) : (s.setDecoded d).decoded = d := rfl

theorem State.setValid_eq (s : State) (v : Bool) : s.setValid v = s.setStatus (statusSetValid v s.status) := rfl

theorem State.writeFrame_eq (s : State) (i : Nat) (vs : List Byte) :
    s.writeFrame i vs = s.setMem (s.mem.writeBytes (frameBase + i) vs) := rfl

theorem State.writeSym_eq (s : State) (j : Nat) (vs : List Byte) :
    s.writeSym j vs = s.setMem (s.mem.writeBytes (symBase + j) vs) := rfl

theorem State.setPending_eq (s : State) (es : List HostEvent) :
    s.setPending es = s.setHost { s.host with pending := es } := rfl

theorem State.setResetLine_eq (s : State) (b : Bool) :
    s.setResetLine b = s.setHost { s.host with resetLine := b } := rfl

theorem resetBlock_eq (s : State) : resetBlock s = State.reset.setHost s.host := rfl

end Sys2Proof.Machine
end

