-- ==== Sys2Proof/Laws/Memory.lean ====
section
/-! SUPPORT. What a read gives after a write, which memory operations keep the canonical form, and when two memories in
that form are equal. -/

namespace Sys2Proof.Machine

@[simp] theorem Memory.unlisted_eq (a : Nat) : Memory.unlisted a = 0 := rfl

@[simp] theorem Memory.read_nil (a : Nat) : Memory.read [] a = 0 := rfl

theorem Memory.read_cons (b : Nat) (v : Byte) (m : Memory) (a : Nat) :
    Memory.read ((b, v) :: m) a = if b = a then v else Memory.read m a := rfl

theorem Memory.read_eq_zero_of_not_mem (m : Memory) (a : Nat) (h : ∀ c ∈ m, c.1 ≠ a) : m.read a = 0 := by
  induction m with
  | nil => rfl
  | cons c m ih =>
    rw [Memory.read_cons, if_neg (h c (by simp)), ih fun d hd => h d (by simp [hd])]

theorem Memory.mem_erase (m : Memory) (a : Nat) (c : Host.Cell) : c ∈ m.erase a ↔ c ∈ m ∧ c.1 ≠ a := by
  simp [Memory.erase]

theorem Memory.read_erase (m : Memory) (a b : Nat) : (m.erase a).read b = if b = a then 0 else m.read b := by
  by_cases hb : b = a
  · rw [if_pos hb]
    exact Memory.read_eq_zero_of_not_mem _ _ fun c hc => hb ▸ ((Memory.mem_erase m a c).1 hc).2
  rw [if_neg hb]
  induction m with
  | nil => rfl
  | cons c m ih =>
    obtain ⟨k, w⟩ := c
    by_cases hk : k = a
    · have : Memory.erase ((k, w) :: m) a = Memory.erase m a := by simp [Memory.erase, hk]
      rw [this, ih, Memory.read_cons, if_neg (by omega)]
    · have : Memory.erase ((k, w) :: m) a = (k, w) :: Memory.erase m a := by simp [Memory.erase, hk]
      rw [this, Memory.read_cons, Memory.read_cons, ih]

theorem Memory.mem_insert (m : Memory) (a : Nat) (v : Byte) (c : Host.Cell) :
    c ∈ m.insert a v ↔ c = (a, v) ∨ c ∈ m := by
  induction m with
  | nil => simp [Memory.insert]
  | cons d m ih =>
    simp only [Memory.insert]
    split
    · simp
    · simp only [List.mem_cons, ih]; tauto

theorem Memory.read_insert (m : Memory) (a b : Nat) (v : Byte) (h : ∀ c ∈ m, c.1 ≠ a) :
    (m.insert a v).read b = if b = a then v else m.read b := by
  induction m with
  | nil => simp [Memory.insert, Memory.read_cons, eq_comm]
  | cons d m ih =>
    have hd : d.1 ≠ a := h d (by simp)
    have ih' := ih fun c hc => h c (by simp [hc])
    obtain ⟨k, w⟩ := d
    simp only [Memory.insert]
    split
    · rw [Memory.read_cons]; simp [eq_comm]
    · rw [Memory.read_cons, Memory.read_cons, ih']
      by_cases hkb : k = b
      · have : b ≠ a := hkb ▸ hd
        simp [hkb, this]
      · simp [hkb]

/-- A read after a write: the byte written at its address, every other byte as before, whatever list memory is. -/
theorem Memory.read_write (m : Memory) (a b : Nat) (v : Byte) :
    (m.write a v).read b = if b = a then v else m.read b := by
  unfold Memory.write
  split
  · rename_i h
    rw [Memory.read_erase, h, Memory.unlisted_eq]
  · rw [Memory.read_insert _ _ _ _ fun c hc => ((Memory.mem_erase m a c).1 hc).2, Memory.read_erase]
    split <;> simp_all

/-- A read after a write of consecutive bytes. -/
theorem Memory.read_writeBytes (m : Memory) (a b : Nat) (vs : List Byte) :
    (m.writeBytes a vs).read b = if a ≤ b ∧ b < a + vs.length then vs.getD (b - a) 0 else m.read b := by
  induction vs generalizing m a with
  | nil => simp [Memory.writeBytes]
  | cons v vs ih =>
    rw [Memory.writeBytes, ih, Memory.read_write, List.length_cons]
    by_cases h0 : b = a
    · subst h0; simp
    · by_cases h1 : a + 1 ≤ b ∧ b < a + 1 + vs.length
      · have : b - a = (b - (a + 1)) + 1 := by omega
        rw [if_pos h1, if_pos (by omega), this, List.getD_cons_succ]
      · rw [if_neg h1, if_neg h0, if_neg (by omega)]

theorem Memory.wf_cons (a : Nat) (v : Byte) (m : Memory) :
    Memory.wf ((a, v) :: m) = true ↔ v ≠ 0 ∧ (∀ c ∈ m, a < c.1) ∧ m.wf = true := by
  simp [Memory.wf, and_assoc]

theorem Memory.wf_erase (m : Memory) (a : Nat) (h : m.wf = true) : (m.erase a).wf = true := by
  induction m with
  | nil => rfl
  | cons d m ih =>
    obtain ⟨k, w⟩ := d
    obtain ⟨h1, h2, h3⟩ := (Memory.wf_cons k w m).1 h
    by_cases hk : k = a
    · have : Memory.erase ((k, w) :: m) a = Memory.erase m a := by simp [Memory.erase, hk]
      rw [this]; exact ih h3
    · have : Memory.erase ((k, w) :: m) a = (k, w) :: Memory.erase m a := by simp [Memory.erase, hk]
      rw [this, Memory.wf_cons]
      exact ⟨h1, fun c hc => h2 c ((Memory.mem_erase m a c).1 hc).1, ih h3⟩

theorem Memory.wf_insert (m : Memory) (a : Nat) (v : Byte) (h : m.wf = true) (hv : v ≠ 0)
    (ha : ∀ c ∈ m, c.1 ≠ a) : (m.insert a v).wf = true := by
  induction m with
  | nil => simpa [Memory.insert, Memory.wf] using hv
  | cons d m ih =>
    obtain ⟨k, w⟩ := d
    obtain ⟨h1, h2, h3⟩ := (Memory.wf_cons k w m).1 h
    have hk : k ≠ a := ha (k, w) (by simp)
    simp only [Memory.insert]
    split
    · rename_i hlt
      refine (Memory.wf_cons a v _).2 ⟨hv, fun c hc => ?_, h⟩
      rcases List.mem_cons.1 hc with rfl | hc
      · exact hlt
      · exact hlt.trans (h2 c hc)
    · refine (Memory.wf_cons k w _).2 ⟨h1, fun c hc => ?_, ih h3 fun c hc => ha c (by simp [hc])⟩
      rcases (Memory.mem_insert m a v c).1 hc with rfl | hc
      · show k < a; omega
      · exact h2 c hc

/-- A write keeps the canonical form. -/
theorem Memory.wf_write (m : Memory) (a : Nat) (v : Byte) (h : m.wf = true) : (m.write a v).wf = true := by
  unfold Memory.write
  split
  · exact Memory.wf_erase m a h
  · rename_i hv
    exact Memory.wf_insert _ a v (Memory.wf_erase m a h) hv fun c hc => ((Memory.mem_erase m a c).1 hc).2

/-- A write of consecutive bytes keeps the canonical form. -/
theorem Memory.wf_writeBytes (m : Memory) (a : Nat) (vs : List Byte) (h : m.wf = true) :
    (m.writeBytes a vs).wf = true := by
  induction vs generalizing m a with
  | nil => exact h
  | cons v vs ih => exact ih _ _ (Memory.wf_write m a v h)

/-- The addresses listed after a write: the one written, and those listed before. -/
theorem Memory.key_write (m : Memory) (a : Nat) (v : Byte) (c : Host.Cell) (h : c ∈ m.write a v) :
    c.1 = a ∨ c ∈ m := by
  unfold Memory.write at h
  split at h
  · exact .inr ((Memory.mem_erase m a c).1 h).1
  · rcases (Memory.mem_insert _ a v c).1 h with rfl | h
    · exact .inl rfl
    · exact .inr ((Memory.mem_erase m a c).1 h).1

/-- The addresses listed after a write of consecutive bytes: those written, and those listed before. -/
theorem Memory.key_writeBytes (m : Memory) (a : Nat) (vs : List Byte) (c : Host.Cell) (h : c ∈ m.writeBytes a vs) :
    (a ≤ c.1 ∧ c.1 < a + vs.length) ∨ c ∈ m := by
  induction vs generalizing m a with
  | nil => exact .inr h
  | cons v vs ih =>
    rw [List.length_cons]
    rcases ih _ _ h with h | h
    · exact .inl (by omega)
    · rcases Memory.key_write m a v c h with h | h
      · exact .inl (by omega)
      · exact .inr h

theorem Memory.read_head (k : Nat) (w : Byte) (m : Memory) : Memory.read ((k, w) :: m) k = w := by
  simp [Memory.read_cons]

theorem Memory.read_below (m : Memory) (a : Nat) (h : ∀ c ∈ m, a < c.1) : m.read a = 0 :=
  Memory.read_eq_zero_of_not_mem m a fun c hc => by have := h c hc; omega

/-- Two memories in canonical form that read alike are equal. -/
theorem Memory.ext_of_wf (m n : Memory) (hm : m.wf = true) (hn : n.wf = true) (h : ∀ a, m.read a = n.read a) :
    m = n := by
  induction m generalizing n with
  | nil =>
    cases n with
    | nil => rfl
    | cons d n =>
      obtain ⟨k, w⟩ := d
      have := h k
      rw [Memory.read_head, Memory.read_nil] at this
      exact absurd this.symm ((Memory.wf_cons k w n).1 hn).1
  | cons c m ih =>
    obtain ⟨k, w⟩ := c
    obtain ⟨h1, h2, h3⟩ := (Memory.wf_cons k w m).1 hm
    cases n with
    | nil =>
      have := h k
      rw [Memory.read_head, Memory.read_nil] at this
      exact absurd this h1
    | cons d n =>
      obtain ⟨k', w'⟩ := d
      obtain ⟨g1, g2, g3⟩ := (Memory.wf_cons k' w' n).1 hn
      have hkk : k = k' := by
        rcases Nat.lt_trichotomy k k' with hlt | heq | hlt
        · have := h k
          rw [Memory.read_head, Memory.read_cons, if_neg (by omega),
            Memory.read_below n k fun c hc => hlt.trans (g2 c hc)] at this
          exact absurd this h1
        · exact heq
        · have := h k'
          rw [Memory.read_head, Memory.read_cons, if_neg (by omega),
            Memory.read_below m k' fun c hc => hlt.trans (h2 c hc)] at this
          exact absurd this.symm g1
      subst hkk
      have hww : w = w' := by simpa [Memory.read_head] using h k
      subst hww
      congr 1
      refine ih n h3 g3 fun a => ?_
      by_cases ha : k = a
      · subst ha
        rw [Memory.read_below m k h2, Memory.read_below n k g2]
      · have := h a
        rwa [Memory.read_cons, Memory.read_cons, if_neg ha, if_neg ha] at this

/-! ### FRAME and SYM -/

@[simp] theorem State.frame_setCtrl (s : State) (v : Byte) (i : Nat) : (s.setCtrl v).frame i = s.frame i := rfl
@[simp] theorem State.frame_setStatus (s : State) (v : Byte) (i : Nat) : (s.setStatus v).frame i = s.frame i := rfl
@[simp] theorem State.frame_setErrInfo (s : State) (v : Byte) (i : Nat) : (s.setErrInfo v).frame i = s.frame i := rfl
@[simp] theorem State.frame_setFrameLen (s : State) (v : Byte) (i : Nat) : (s.setFrameLen v).frame i = s.frame i := rfl
@[simp] theorem State.frame_setSymLen (s : State) (v : Byte) (i : Nat) : (s.setSymLen v).frame i = s.frame i := rfl
@[simp] theorem State.frame_setOutCheck (s : State) (v : Byte) (i : Nat) : (s.setOutCheck v).frame i = s.frame i := rfl
@[simp] theorem State.frame_setDecoded (s : State) (d : Decoded) (i : Nat) : (s.setDecoded d).frame i = s.frame i := rfl
@[simp] theorem State.frame_setHost (s : State) (h : HostSide) (i : Nat) : (s.setHost h).frame i = s.frame i := rfl
@[simp] theorem State.sym_setCtrl (s : State) (v : Byte) (j : Nat) : (s.setCtrl v).sym j = s.sym j := rfl
@[simp] theorem State.sym_setStatus (s : State) (v : Byte) (j : Nat) : (s.setStatus v).sym j = s.sym j := rfl
@[simp] theorem State.sym_setErrInfo (s : State) (v : Byte) (j : Nat) : (s.setErrInfo v).sym j = s.sym j := rfl
@[simp] theorem State.sym_setFrameLen (s : State) (v : Byte) (j : Nat) : (s.setFrameLen v).sym j = s.sym j := rfl
@[simp] theorem State.sym_setSymLen (s : State) (v : Byte) (j : Nat) : (s.setSymLen v).sym j = s.sym j := rfl
@[simp] theorem State.sym_setOutCheck (s : State) (v : Byte) (j : Nat) : (s.setOutCheck v).sym j = s.sym j := rfl
@[simp] theorem State.sym_setDecoded (s : State) (d : Decoded) (j : Nat) : (s.setDecoded d).sym j = s.sym j := rfl
@[simp] theorem State.sym_setHost (s : State) (h : HostSide) (j : Nat) : (s.setHost h).sym j = s.sym j := rfl

/-- FRAME after a write of consecutive FRAME bytes. -/
theorem State.frame_writeFrame (s : State) (i k : Nat) (vs : List Byte) :
    (s.writeFrame i vs).frame k = if i ≤ k ∧ k < i + vs.length then vs.getD (k - i) 0 else s.frame k := by
  unfold State.frame State.writeFrame
  rw [State.setMem_mem, Memory.read_writeBytes]
  have : frameBase + k - (frameBase + i) = k - i := by omega
  rw [this]
  exact if_congr (by constructor <;> intro <;> omega) rfl rfl

/-- SYM after a write of consecutive SYM bytes. -/
theorem State.sym_writeSym (s : State) (i k : Nat) (vs : List Byte) :
    (s.writeSym i vs).sym k = if i ≤ k ∧ k < i + vs.length then vs.getD (k - i) 0 else s.sym k := by
  unfold State.sym State.writeSym
  rw [State.setMem_mem, Memory.read_writeBytes]
  have : symBase + k - (symBase + i) = k - i := by omega
  rw [this]
  exact if_congr (by constructor <;> intro <;> omega) rfl rfl

/-- A write that stays within FRAME leaves SYM alone. -/
theorem State.sym_writeFrame (s : State) (i j : Nat) (vs : List Byte) (h : i + vs.length ≤ 0x20) :
    (s.writeFrame i vs).sym j = s.sym j := by
  unfold State.sym State.writeFrame
  rw [State.setMem_mem, Memory.read_writeBytes, if_neg]
  simp only [symBase, frameBase]; omega

/-- A write of SYM bytes leaves FRAME alone. -/
theorem State.frame_writeSym (s : State) (i j : Nat) (vs : List Byte) (h : j < 0x20) :
    (s.writeSym i vs).frame j = s.frame j := by
  unfold State.frame State.writeSym
  rw [State.setMem_mem, Memory.read_writeBytes, if_neg]
  simp only [symBase, frameBase]; omega

end Sys2Proof.Machine
end

