-- ==== Sys2Proof/Laws/Operation.lean ====
section
/-! SUPPORT. What an operation can do, said once: the first failing test, the two commits, and `perform`. -/

namespace Sys2Proof.Machine

/-! ### Checks -/

@[simp] theorem firstFailure_nil : firstFailure [] = none := rfl

theorem firstFailure_cons (c : Check) (cs : List Check) :
    firstFailure (c :: cs) = if c.fails then some c.error else firstFailure cs := rfl

/-- The first of several tests, then the others. -/
@[simp] theorem firstFailure_failIf {p : Prop} {inst : Decidable p} (e : OpError) (cs : List Check) :
    firstFailure (failIf p e :: cs) = if p then some e else firstFailure cs := by
  simp [firstFailure_cons, failIf]

/-- Equivalent tests are equal, whatever decides them. -/
theorem failIf_congr {p q : Prop} {instP : Decidable p} {instQ : Decidable q} (e : OpError) (h : p ↔ q) :
    failIf p e = failIf q e := by
  simp [failIf, h]

theorem firstFailure_append (cs ds : List Check) :
    firstFailure (cs ++ ds) = (firstFailure cs).or (firstFailure ds) := by
  induction cs with
  | nil => rfl
  | cons c cs ih => rw [List.cons_append, firstFailure_cons, firstFailure_cons, ih]; split <;> rfl

/-- No test fails exactly where none of them does. -/
theorem firstFailure_eq_none_iff (cs : List Check) : firstFailure cs = none ↔ ∀ c ∈ cs, c.fails = false := by
  induction cs with
  | nil => simp
  | cons c cs ih => rw [firstFailure_cons]; split <;> simp_all

/-- The error of tests over the indices below `n`: that of the lowest index whose test fails. -/
theorem firstFailure_map_range_some (n j : Nat) (f : Nat → Check) (hj : j < n) (hf : (f j).fails = true)
    (hlt : ∀ i, i < j → (f i).fails = false) : firstFailure ((List.range n).map f) = some (f j).error := by
  obtain ⟨k, rfl⟩ : ∃ k, n = j + 1 + k := ⟨n - (j + 1), by omega⟩
  rw [List.range_add, List.map_append, firstFailure_append, List.range_succ, List.map_append, firstFailure_append]
  have h0 : firstFailure ((List.range j).map f) = none :=
    (firstFailure_eq_none_iff _).2 fun c hc => by
      obtain ⟨i, hi, rfl⟩ := List.mem_map.1 hc
      exact hlt i (List.mem_range.1 hi)
  simp [h0, firstFailure_cons, hf]

/-! ### STATUS -/

theorem statusFinish_done (st : Byte) : statusFinish 0 st = (st &&& 0xE2) ||| 0x01 := by revert st; decide

theorem statusFinish_err (c : BitVec 3) (st : Byte) :
    statusFinish c st = (st &&& 0xE2) ||| ((c.setWidth 8) <<< 2) ||| 0x01 := by revert c st; decide

theorem statusErr_finish (c : BitVec 3) (st : Byte) : statusErr (statusFinish c st) = c := by revert c st; decide

theorem statusValid_finish (c : BitVec 3) (st : Byte) : statusValid (statusFinish c st) = statusValid st := by
  revert c st; decide

theorem statusDone_finish (c : BitVec 3) (st : Byte) : statusDone (statusFinish c st) = true := by
  revert c st; decide

theorem statusRes_finish (c : BitVec 3) (st : Byte) : statusRes (statusFinish c st) = statusRes st := by
  revert c st; decide

theorem statusErr_setValid (v : Bool) (st : Byte) : statusErr (statusSetValid v st) = statusErr st := by
  revert v st; decide

theorem statusValid_setValid (v : Bool) (st : Byte) : statusValid (statusSetValid v st) = v := by
  revert v st; decide

theorem statusDone_setValid (v : Bool) (st : Byte) : statusDone (statusSetValid v st) = statusDone st := by
  revert v st; decide

theorem statusRes_setValid (v : Bool) (st : Byte) : statusRes (statusSetValid v st) = statusRes st := by
  revert v st; decide

/-! ### The two commits -/

theorem commitSuccess_eq (s : State) :
    commitSuccess s = { s with status := statusFinish 0 s.status, errInfo := 0 } := rfl

/-- The error commit of an operation that clears neither STATUS.VALID nor OUT_CHECK. -/
theorem commitError_plain (op : Option Instr) (e : OpError) (s : State)
    (hv : clearsValid op = false) (hc : clearsCheck op = false) :
    commitError op e s = { s with status := statusFinish e.code s.status, errInfo := e.info } := by
  simp only [commitError, hv, hc]; rfl

/-- The error commit of CSUMA_CHK and CSUMB_CHK. -/
theorem commitError_check (op : Option Instr) (e : OpError) (s : State)
    (hv : clearsValid op = false) (hc : clearsCheck op = true) :
    commitError op e s = { s with status := statusFinish e.code s.status, errInfo := e.info, outCheck := 0 } := by
  simp only [commitError, hv, hc]; rfl

/-- The error commit of DECA and DECB. -/
theorem commitError_decode (op : Option Instr) (e : OpError) (s : State)
    (hv : clearsValid op = true) (hc : clearsCheck op = true) :
    commitError op e s =
      { s with
        status := statusSetValid false (statusFinish e.code s.status)
        errInfo := e.info
        outCheck := 0 } := by
  simp only [commitError, hv, hc]; rfl

/-! ### perform -/

/-- An operation whose tests all pass commits its effect. -/
theorem perform_ok (i : Instr) (checks : State → List Check) (effect : State → State) (s : State)
    (h : firstFailure (checks (s.setCtrl (encode i))) = none) :
    perform i checks effect s = .next (commitSuccess (effect (s.setCtrl (encode i)))) := by
  simp only [perform, h]

/-- An operation one of whose tests fails commits the first failing test's error. -/
theorem perform_error (i : Instr) (checks : State → List Check) (effect : State → State) (s : State) (e : OpError)
    (h : firstFailure (checks (s.setCtrl (encode i))) = some e) :
    perform i checks effect s = .next (commitError (some i) e (s.setCtrl (encode i))) := by
  simp only [perform, h]

/-- All that an operation can do. -/
theorem perform_cases (i : Instr) (checks : State → List Check) (effect : State → State) (s : State) :
    (firstFailure (checks (s.setCtrl (encode i))) = none ∧
      perform i checks effect s = .next (commitSuccess (effect (s.setCtrl (encode i))))) ∨
    ∃ e, firstFailure (checks (s.setCtrl (encode i))) = some e ∧
      perform i checks effect s = .next (commitError (some i) e (s.setCtrl (encode i))) := by
  rcases h : firstFailure (checks (s.setCtrl (encode i))) with _ | e
  · exact .inl ⟨rfl, perform_ok i checks effect s h⟩
  · exact .inr ⟨e, rfl, perform_error i checks effect s e h⟩

/-- The tests of each operation, with this instance's parameters. -/
def checksOf : Instr → State → List Check
  | .tobin => tobinChecks
  | .parse => parseChecks
  | .rev => revChecks
  | .enca => encaChecks Config.params
  | .encaRaw => encaChecks Config.params
  | .deca => structureChecksA Config.params
  | .csumaGen => lengthChecksA
  | .csumaChk => lengthChecksA
  | .encb => encbChecks Config.params
  | .encbRaw => encbChecks Config.params
  | .decb => structureChecksB Config.params
  | .csumbGen => lengthChecksB
  | .csumbChk => lengthChecksB

/-- The effect of each operation, with this instance's parameters. -/
def effectOf : Instr → State → State
  | .tobin => tobinEffect
  | .parse => parseEffect
  | .rev => revEffect
  | .enca => encaEffect Config.params
  | .encaRaw => encaEffect Config.params
  | .deca => decaEffect
  | .csumaGen => csumaGenEffect
  | .csumaChk => csumaChkEffect
  | .encb => encbEffect Config.params
  | .encbRaw => encbEffect Config.params
  | .decb => decbEffect Config.params
  | .csumbGen => csumbGenEffect
  | .csumbChk => csumbChkEffect

/-- Every meaning is `perform` over its tests and its effect. -/
theorem exec_eq_perform (i : Instr) (s : State) : exec i s = perform i (checksOf i) (effectOf i) s := by
  cases i <;> rfl

/-- All that `exec` can do. -/
theorem exec_cases (i : Instr) (s : State) :
    (firstFailure (checksOf i (s.setCtrl (encode i))) = none ∧
      exec i s = .next (commitSuccess (effectOf i (s.setCtrl (encode i))))) ∨
    ∃ e, firstFailure (checksOf i (s.setCtrl (encode i))) = some e ∧
      exec i s = .next (commitError (some i) e (s.setCtrl (encode i))) := by
  rw [exec_eq_perform]; exact perform_cases i _ _ s

/-! ### The host port -/

/-- All that a CTRL write can do. -/
theorem ctrlWrite_cases (v : Byte) (s : State) :
    (∃ i, decode v = .ok i ∧ ctrlWrite v s = exec i s) ∨
    ((∃ r, decode v = .error r) ∧ ctrlWrite v s = .next (illegalWrite v s)) := by
  unfold ctrlWrite
  rcases h : decode v with r | i
  · exact .inr ⟨⟨r, rfl⟩, rfl⟩
  · exact .inl ⟨i, rfl, rfl⟩

theorem memWrite_ctrl (v : Byte) (s : State) : memWrite 0x00 v s = ctrlWrite v s := by
  simp [memWrite, Reg.addr]

theorem memWrite_other (a v : Byte) (s : State) (h : a ≠ 0x00) : memWrite a v s = .next (storeByte a v s) := by
  simp only [memWrite, Reg.addr]; exact if_neg h

theorem illegalWrite_eq (c : Byte) (s : State) :
    illegalWrite c s = { s with ctrl := c, status := statusFinish 4 s.status, errInfo := c } := rfl

theorem idle_released (s : State) (h : s.host.resetLine = false) : idle s = s := by simp [idle, h]

theorem step_idle (s : State) (h : s.host.pending = []) : step s = .next (idle s) := by
  simp [step, hostStep, h]

theorem step_event (s : State) (e : HostEvent) (es : List HostEvent) (h : s.host.pending = e :: es) :
    step s = hostEvent e (s.setPending es) := by
  simp [step, hostStep, h]

end Sys2Proof.Machine
end

