-- ==== Sys2Proof/Laws/Values.lean ====
section
/-! SUPPORT. The small facts of the value computations: bit fields as shifts and masks, bit order, wire codes, the lengths
and bytes of an assembled frame. -/

namespace Sys2Proof.Machine

/-! ### Bits of a byte -/

theorem getLsbD_byteOfBits (f : Nat → Bool) (i : Nat) (h : i < 8) : (byteOfBits f).getLsbD i = f i := by
  unfold byteOfBits
  interval_cases i <;>
    (generalize f 0 = b0, f 1 = b1, f 2 = b2, f 3 = b3, f 4 = b4, f 5 = b5, f 6 = b6, f 7 = b7
     revert b0 b1 b2 b3 b4 b5 b6 b7; decide)

theorem slice_7_4 (b : Byte) : slice b 7 4 = b >>> 4 := by revert b; decide
theorem slice_3_0 (b : Byte) : slice b 3 0 = b &&& 0x0F := by revert b; decide
theorem slice_3_3 (b : Byte) : slice b 3 3 = bitByte (b.getLsbD 3) := by revert b; decide
theorem slice_0_0 (b : Byte) : slice b 0 0 = bitByte (b.getLsbD 0) := by revert b; decide
theorem slice_7_2 (b : Byte) : slice b 7 2 = b >>> 2 := by revert b; decide
theorem slice_2_1 (b : Byte) : slice b 2 1 = (b >>> 1) &&& 0x03 := by revert b; decide
theorem slice_1_0 (b : Byte) : slice b 1 0 = b &&& 0x03 := by revert b; decide
theorem slice_7_7 (b : Byte) : slice b 7 7 = bitByte (b.getLsbD 7) := by revert b; decide
theorem slice_6_6 (b : Byte) : slice b 6 6 = (b >>> 6) &&& 0x01 := by revert b; decide
theorem slice_5_3 (b : Byte) : slice b 5 3 = (b >>> 3) &&& 0x07 := by revert b; decide
theorem slice_2_0 (b : Byte) : slice b 2 0 = b &&& 0x07 := by revert b; decide

theorem bitByte_getLsbD (b : Byte) (i : Fin 8) : bitByte (b.getLsbD i) = (b >>> (i : Nat)) &&& 0x01 := by
  revert b i; decide

/-! ### Frames -/

@[simp] theorem length_csumA (body : List Byte) : (csumA body).length = 6 := by simp [csumA]

@[simp] theorem length_assembleA (p : Params) (s : State) : (assembleA p s).length = 17 := by
  simp [assembleA, bodyA]

@[simp] theorem length_assembleB (p : Params) (s : State) : (assembleB p s).length = 18 := by
  simp [assembleB, bodyB]

@[simp] theorem length_transportOrder (c : Byte) (fr : List Byte) : (transportOrder c fr).length = fr.length := by
  unfold transportOrder; split <;> simp

/-- The length self-check of the encoders never fails, so their only errors are the inputs' (R100). -/
theorem encaChecks_lengthCheck (p : Params) (s : State) :
    firstFailure (encaChecks p s) = firstFailure (inputChecksA s) := by
  unfold encaChecks
  generalize inputChecksA s = cs
  induction cs with
  | nil => simp [firstFailure, failIf]
  | cons c cs ih => simp only [List.cons_append, firstFailure, ih]

theorem encbChecks_lengthCheck (p : Params) (s : State) :
    firstFailure (encbChecks p s) = firstFailure (inputChecksB s) := by
  unfold encbChecks
  generalize inputChecksB s = cs
  induction cs with
  | nil => simp [firstFailure, failIf]
  | cons c cs ih => simp only [List.cons_append, firstFailure, ih]

end Sys2Proof.Machine
end

