-- ==== Sys2Proof/Laws/Effects.lean ====
section
/-! SUPPORT. What the effect of each operation leaves unchanged, field by field, and the shape of the error commit. -/

namespace Sys2Proof.Machine

/-! ### Fields that no effect changes -/

@[simp] theorem effectOf_ctrl (i : Instr) (s : State) : (effectOf i s).ctrl = s.ctrl := by
  cases i <;> simp [effectOf, tobinEffect, parseEffect, revEffect, encaEffect, decaEffect, csumaGenEffect, csumaChkEffect,
    encbEffect, decbEffect, csumbGenEffect, csumbChkEffect, State.writeFrame_eq, State.writeSym_eq, State.setValid_eq]

@[simp] theorem effectOf_errInfo (i : Instr) (s : State) : (effectOf i s).errInfo = s.errInfo := by
  cases i <;> simp [effectOf, tobinEffect, parseEffect, revEffect, encaEffect, decaEffect, csumaGenEffect, csumaChkEffect,
    encbEffect, decbEffect, csumbGenEffect, csumbChkEffect, State.writeFrame_eq, State.writeSym_eq, State.setValid_eq]

@[simp] theorem effectOf_tbWidth (i : Instr) (s : State) : (effectOf i s).tbWidth = s.tbWidth := by
  cases i <;> simp [effectOf, tobinEffect, parseEffect, revEffect, encaEffect, decaEffect, csumaGenEffect, csumaChkEffect,
    encbEffect, decbEffect, csumbGenEffect, csumbChkEffect, State.writeFrame_eq, State.writeSym_eq, State.setValid_eq]

@[simp] theorem effectOf_tbOffset (i : Instr) (s : State) : (effectOf i s).tbOffset = s.tbOffset := by
  cases i <;> simp [effectOf, tobinEffect, parseEffect, revEffect, encaEffect, decaEffect, csumaGenEffect, csumaChkEffect,
    encbEffect, decbEffect, csumbGenEffect, csumbChkEffect, State.writeFrame_eq, State.writeSym_eq, State.setValid_eq]

@[simp] theorem effectOf_tbValueLo (i : Instr) (s : State) : (effectOf i s).tbValueLo = s.tbValueLo := by
  cases i <;> simp [effectOf, tobinEffect, parseEffect, revEffect, encaEffect, decaEffect, csumaGenEffect, csumaChkEffect,
    encbEffect, decbEffect, csumbGenEffect, csumbChkEffect, State.writeFrame_eq, State.writeSym_eq, State.setValid_eq]

@[simp] theorem effectOf_tbValueHi (i : Instr) (s : State) : (effectOf i s).tbValueHi = s.tbValueHi := by
  cases i <;> simp [effectOf, tobinEffect, parseEffect, revEffect, encaEffect, decaEffect, csumaGenEffect, csumaChkEffect,
    encbEffect, decbEffect, csumbGenEffect, csumbChkEffect, State.writeFrame_eq, State.writeSym_eq, State.setValid_eq]

@[simp] theorem effectOf_inPower (i : Instr) (s : State) : (effectOf i s).inPower = s.inPower := by
  cases i <;> simp [effectOf, tobinEffect, parseEffect, revEffect, encaEffect, decaEffect, csumaGenEffect, csumaChkEffect,
    encbEffect, decbEffect, csumbGenEffect, csumbChkEffect, State.writeFrame_eq, State.writeSym_eq, State.setValid_eq]

@[simp] theorem effectOf_inMode (i : Instr) (s : State) : (effectOf i s).inMode = s.inMode := by
  cases i <;> simp [effectOf, tobinEffect, parseEffect, revEffect, encaEffect, decaEffect, csumaGenEffect, csumaChkEffect,
    encbEffect, decbEffect, csumbGenEffect, csumbChkEffect, State.writeFrame_eq, State.writeSym_eq, State.setValid_eq]

@[simp] theorem effectOf_inTemp (i : Instr) (s : State) : (effectOf i s).inTemp = s.inTemp := by
  cases i <;> simp [effectOf, tobinEffect, parseEffect, revEffect, encaEffect, decaEffect, csumaGenEffect, csumaChkEffect,
    encbEffect, decbEffect, csumbGenEffect, csumbChkEffect, State.writeFrame_eq, State.writeSym_eq, State.setValid_eq]

@[simp] theorem effectOf_inFan (i : Instr) (s : State) : (effectOf i s).inFan = s.inFan := by
  cases i <;> simp [effectOf, tobinEffect, parseEffect, revEffect, encaEffect, decaEffect, csumaGenEffect, csumaChkEffect,
    encbEffect, decbEffect, csumbGenEffect, csumbChkEffect, State.writeFrame_eq, State.writeSym_eq, State.setValid_eq]

@[simp] theorem effectOf_inVane (i : Instr) (s : State) : (effectOf i s).inVane = s.inVane := by
  cases i <;> simp [effectOf, tobinEffect, parseEffect, revEffect, encaEffect, decaEffect, csumaGenEffect, csumaChkEffect,
    encbEffect, decbEffect, csumbGenEffect, csumbChkEffect, State.writeFrame_eq, State.writeSym_eq, State.setValid_eq]

@[simp] theorem effectOf_inIsee (i : Instr) (s : State) : (effectOf i s).inIsee = s.inIsee := by
  cases i <;> simp [effectOf, tobinEffect, parseEffect, revEffect, encaEffect, decaEffect, csumaGenEffect, csumaChkEffect,
    encbEffect, decbEffect, csumbGenEffect, csumbChkEffect, State.writeFrame_eq, State.writeSym_eq, State.setValid_eq]

@[simp] theorem effectOf_inEcono (i : Instr) (s : State) : (effectOf i s).inEcono = s.inEcono := by
  cases i <;> simp [effectOf, tobinEffect, parseEffect, revEffect, encaEffect, decaEffect, csumaGenEffect, csumaChkEffect,
    encbEffect, decbEffect, csumbGenEffect, csumbChkEffect, State.writeFrame_eq, State.writeSym_eq, State.setValid_eq]

@[simp] theorem effectOf_inHour (i : Instr) (s : State) : (effectOf i s).inHour = s.inHour := by
  cases i <;> simp [effectOf, tobinEffect, parseEffect, revEffect, encaEffect, decaEffect, csumaGenEffect, csumaChkEffect,
    encbEffect, decbEffect, csumbGenEffect, csumbChkEffect, State.writeFrame_eq, State.writeSym_eq, State.setValid_eq]

@[simp] theorem effectOf_inMinute (i : Instr) (s : State) : (effectOf i s).inMinute = s.inMinute := by
  cases i <;> simp [effectOf, tobinEffect, parseEffect, revEffect, encaEffect, decaEffect, csumaGenEffect, csumaChkEffect,
    encbEffect, decbEffect, csumbGenEffect, csumbChkEffect, State.writeFrame_eq, State.writeSym_eq, State.setValid_eq]

@[simp] theorem effectOf_host (i : Instr) (s : State) : (effectOf i s).host = s.host := by
  cases i <;> simp [effectOf, tobinEffect, parseEffect, revEffect, encaEffect, decaEffect, csumaGenEffect, csumaChkEffect,
    encbEffect, decbEffect, csumbGenEffect, csumbChkEffect, State.writeFrame_eq, State.writeSym_eq, State.setValid_eq]

/-! ### Fields that only some effects change -/

/-- Only the decodes set STATUS.VALID (R16). -/
theorem effectOf_status (i : Instr) (s : State)
    (h1 : i ≠ .deca) (h2 : i ≠ .decb) :
    (effectOf i s).status = s.status := by
  cases i <;> simp_all [effectOf, tobinEffect, parseEffect, revEffect, encaEffect, csumaGenEffect, csumaChkEffect,
    encbEffect, csumbGenEffect, csumbChkEffect, State.writeFrame_eq, State.writeSym_eq]

/-- Only the decodes and the CHK operations write OUT_CHECK (R25). -/
theorem effectOf_outCheck (i : Instr) (s : State)
    (h1 : i ≠ .deca) (h2 : i ≠ .decb) (h3 : i ≠ .csumaChk) (h4 : i ≠ .csumbChk) :
    (effectOf i s).outCheck = s.outCheck := by
  cases i <;> simp_all [effectOf, tobinEffect, parseEffect, revEffect, encaEffect, csumaGenEffect, encbEffect, csumbGenEffect, State.writeFrame_eq, State.writeSym_eq]

/-- Only the decodes write OUT_VARIANT to OUT_TIMER_ON (R24). -/
theorem effectOf_decoded (i : Instr) (s : State)
    (h1 : i ≠ .deca) (h2 : i ≠ .decb) :
    (effectOf i s).decoded = s.decoded := by
  cases i <;> simp_all [State.decoded, effectOf, tobinEffect, parseEffect, revEffect, encaEffect, csumaGenEffect, csumaChkEffect,
    encbEffect, csumbGenEffect, csumbChkEffect, State.writeFrame_eq, State.writeSym_eq]

/-- Only PARSE and the encoders write FRAME_LEN (R18). -/
theorem effectOf_frameLen (i : Instr) (s : State)
    (h1 : i ≠ .parse) (h2 : i ≠ .enca) (h3 : i ≠ .encaRaw) (h4 : i ≠ .encb) (h5 : i ≠ .encbRaw) :
    (effectOf i s).frameLen = s.frameLen := by
  cases i <;> simp_all [effectOf, tobinEffect, revEffect, decaEffect, csumaGenEffect, csumaChkEffect,
    decbEffect, csumbGenEffect, csumbChkEffect, State.writeFrame_eq, State.writeSym_eq, State.setValid_eq]

/-- Only TOBIN writes SYM_LEN (R19). -/
theorem effectOf_symLen (i : Instr) (s : State)
    (h1 : i ≠ .tobin) :
    (effectOf i s).symLen = s.symLen := by
  cases i <;> simp_all [effectOf, parseEffect, revEffect, encaEffect, decaEffect, csumaGenEffect, csumaChkEffect,
    encbEffect, decbEffect, csumbGenEffect, csumbChkEffect, State.writeFrame_eq, State.setValid_eq]

/-- A decode sets STATUS.VALID (R81, R94). -/
theorem effectOf_status_decode (i : Instr) (s : State) (h : i = .deca ∨ i = .decb) :
    (effectOf i s).status = statusSetValid true s.status := by
  rcases h with rfl | rfl <;> simp [effectOf, decaEffect, decbEffect, State.setValid_eq]

/-- The error commit writes STATUS, ERRINFO and OUT_CHECK at most (R103). -/
theorem commitError_shape (i : Instr) (e : OpError) (s : State) :
    commitError (some i) e s = { s with
      status :=
        if i = .deca ∨ i = .decb then statusSetValid false (statusFinish e.code s.status)
        else statusFinish e.code s.status
      errInfo := e.info
      outCheck := if i = .deca ∨ i = .decb ∨ i = .csumaChk ∨ i = .csumbChk then 0 else s.outCheck } := by
  cases i <;> rfl

/-! ### Memory -/

theorem tobinEffect_mem (s : State) : (tobinEffect s).mem =
    s.mem.writeBytes (symBase + s.tbOffset.toNat) (digits s.tbWidth.toNat (tbValue s)) := by
  simp [tobinEffect, State.writeSym_eq]

theorem parseEffect_mem (s : State) : (parseEffect s).mem =
    s.mem.writeBytes (frameBase + 0) ((List.range 18).map (packedByte s s.symLen.toNat)) := by
  simp only [parseEffect, State.writeFrame_eq, State.setFrameLen_mem, State.setMem_mem]

theorem revEffect_mem (s : State) : (revEffect s).mem =
    s.mem.writeBytes (frameBase + 0) ((List.range (s.frameLen.toNat / 8)).map fun i => rev8 (s.frame i)) := by
  simp only [revEffect, State.writeFrame_eq, State.setMem_mem]

theorem encaEffect_mem (p : Params) (s : State) : (encaEffect p s).mem =
    s.mem.writeBytes (frameBase + 0) (transportOrder s.ctrl (assembleA p s) ++ [0x00]) := by
  simp only [encaEffect, State.writeFrame_eq, State.setFrameLen_mem, State.setMem_mem]

theorem encbEffect_mem (p : Params) (s : State) : (encbEffect p s).mem =
    s.mem.writeBytes (frameBase + 0) (transportOrder s.ctrl (assembleB p s)) := by
  simp only [encbEffect, State.writeFrame_eq, State.setFrameLen_mem, State.setMem_mem]

theorem csumaGenEffect_mem (s : State) : (csumaGenEffect s).mem =
    s.mem.writeBytes (frameBase + 11) ((List.range 6).map fun i => 0xFF ^^^ s.frame (5 + i)) := by
  simp only [csumaGenEffect, State.writeFrame_eq, State.setMem_mem]

theorem csumbGenEffect_mem (s : State) : (csumbGenEffect s).mem =
    s.mem.writeBytes (frameBase + 17) [csumB (summedBytes s)] := by
  simp only [csumbGenEffect, State.writeFrame_eq, State.setMem_mem]

@[simp] theorem decaEffect_mem (s : State) : (decaEffect s).mem = s.mem := by
  simp [decaEffect, State.setValid_eq]

@[simp] theorem decbEffect_mem (p : Params) (s : State) : (decbEffect p s).mem = s.mem := by
  simp [decbEffect, State.setValid_eq]

@[simp] theorem csumaChkEffect_mem (s : State) : (csumaChkEffect s).mem = s.mem := by simp [csumaChkEffect]

@[simp] theorem csumbChkEffect_mem (s : State) : (csumbChkEffect s).mem = s.mem := by simp [csumbChkEffect]

/-- Bytes written inside FRAME. -/
theorem frameRange (k n : Nat) (h : k + n ≤ 18) : 0x40 ≤ frameBase + k ∧ frameBase + k + n ≤ 0x52 := by
  simp only [frameBase]; omega

/-- Where an operation whose tests pass writes memory: TOBIN in SYM, every other one in FRAME, or nowhere (R26, R27). -/
theorem effectOf_mem (i : Instr) (s : State) (h : firstFailure (checksOf i s) = none) :
    ∃ (a : Nat) (vs : List Byte), (effectOf i s).mem = s.mem.writeBytes a vs ∧
      if i = .tobin then 0x60 ≤ a ∧ a + vs.length ≤ 0xF0 else 0x40 ≤ a ∧ a + vs.length ≤ 0x52 := by
  cases i
  case tobin =>
    refine ⟨_, _, tobinEffect_mem s, ?_⟩
    rw [if_pos rfl]
    simp only [checksOf, tobinChecks, firstFailure_failIf, firstFailure_nil] at h
    simp only [symBase, digits, List.length_map, List.length_range]
    split_ifs at h
    simp only [Config.symMax] at *
    omega
  case parse =>
    refine ⟨_, _, parseEffect_mem s, ?_⟩
    rw [if_neg (by decide), List.length_map, List.length_range]
    exact frameRange 0 18 (by omega)
  case rev =>
    refine ⟨_, _, revEffect_mem s, ?_⟩
    rw [if_neg (by decide), List.length_map, List.length_range]
    simp only [checksOf, revChecks, firstFailure_failIf, firstFailure_nil] at h
    split_ifs at h
    simp only [Config.frameMaxBits] at *
    exact frameRange 0 _ (by omega)
  case enca | encaRaw =>
    refine ⟨_, _, encaEffect_mem Config.params s, ?_⟩
    rw [if_neg (by decide), List.length_append, length_transportOrder, length_assembleA]
    exact frameRange 0 18 (by omega)
  case encb | encbRaw =>
    refine ⟨_, _, encbEffect_mem Config.params s, ?_⟩
    rw [if_neg (by decide), length_transportOrder, length_assembleB]
    exact frameRange 0 18 (by omega)
  case csumaGen =>
    refine ⟨_, _, csumaGenEffect_mem s, ?_⟩
    rw [if_neg (by decide), List.length_map, List.length_range]
    exact frameRange 11 6 (by omega)
  case csumbGen =>
    refine ⟨_, _, csumbGenEffect_mem s, ?_⟩
    rw [if_neg (by decide), List.length_singleton]
    exact frameRange 17 1 (by omega)
  case deca => exact ⟨0x40, [], decaEffect_mem s, by decide⟩
  case decb => exact ⟨0x40, [], decbEffect_mem Config.params s, by decide⟩
  case csumaChk => exact ⟨0x40, [], csumaChkEffect_mem s, by decide⟩
  case csumbChk => exact ⟨0x40, [], csumbChkEffect_mem s, by decide⟩

/-- No error has the code of a completed operation (R100). -/
theorem OpError.code_ne_zero (e : OpError) : e.code ≠ 0 := by
  cases e <;> simp [OpError.code]

end Sys2Proof.Machine
end

