-- ==== Sys2Proof/Laws/PerInstr.lean ====
section
/-! SUPPORT. The per-operation family `EncodingShape`: what every operation's CTRL byte looks like
(spec/30_encoding.md R43 to R45). -/

namespace Sys2Proof.Laws.EncodingShape

open Sys2Proof

/-- The operation is well-formed; its CTRL byte has RES = 0, an OP in 1..11, and RAW = 1 only beside an encoder's OP. -/
def Statement (i : Instr) : Prop :=
  i.wellFormed = true ∧ ctrlRes (encode i) = 0 ∧ 1 ≤ (ctrlOp (encode i)).toNat ∧ (ctrlOp (encode i)).toNat ≤ 11 ∧
    (ctrlRaw (encode i) = true → ctrlOp (encode i) = 0x4 ∨ ctrlOp (encode i) = 0x8)

theorem tobin : Statement .tobin := by unfold Statement; decide
theorem parse : Statement .parse := by unfold Statement; decide
theorem rev : Statement .rev := by unfold Statement; decide
theorem enca : Statement .enca := by unfold Statement; decide
theorem encaRaw : Statement .encaRaw := by unfold Statement; decide
theorem deca : Statement .deca := by unfold Statement; decide
theorem csumaGen : Statement .csumaGen := by unfold Statement; decide
theorem csumaChk : Statement .csumaChk := by unfold Statement; decide
theorem encb : Statement .encb := by unfold Statement; decide
theorem encbRaw : Statement .encbRaw := by unfold Statement; decide
theorem decb : Statement .decb := by unfold Statement; decide
theorem csumbGen : Statement .csumbGen := by unfold Statement; decide
theorem csumbChk : Statement .csumbChk := by unfold Statement; decide

end Sys2Proof.Laws.EncodingShape
end

