-- ==== Sys2Proof/Tests/Slice0.lean ====
section
/-! SUPPORT. The model's own tests: decoding of CTRL bytes written out from the opcode map, ill-formed lines refused,
the vectors of spec/95_test_vectors.md on small states, and for each obligation a state that meets its hypotheses. -/

namespace Sys2Proof.Tests

open Sys2Proof Sys2Proof.Machine Sys2Proof.Claim

/-! ### Decoding. Every byte is RES (3 bits), RAW (1 bit), OP (4 bits), written out from R43 to R45. -/

theorem test_decode_tobin : decode 0b00000001 = .ok .tobin := rfl
theorem test_decode_parse : decode 0b00000010 = .ok .parse := rfl
theorem test_decode_rev : decode 0b00000011 = .ok .rev := rfl
theorem test_decode_enca : decode 0b00000100 = .ok .enca := rfl
theorem test_decode_enca_raw : decode 0b00010100 = .ok .encaRaw := rfl
theorem test_decode_deca : decode 0b00000101 = .ok .deca := rfl
theorem test_decode_csuma_gen : decode 0b00000110 = .ok .csumaGen := rfl
theorem test_decode_csuma_chk : decode 0b00000111 = .ok .csumaChk := rfl
theorem test_decode_encb : decode 0b00001000 = .ok .encb := rfl
theorem test_decode_encb_raw : decode 0b00011000 = .ok .encbRaw := rfl
theorem test_decode_decb : decode 0b00001001 = .ok .decb := rfl
theorem test_decode_csumb_gen : decode 0b00001010 = .ok .csumbGen := rfl
theorem test_decode_csumb_chk : decode 0b00001011 = .ok .csumbChk := rfl

/-- Section 2.11: OP 0, a reserved OP, RAW with DECA, RES bits. -/
theorem test_decode_refuses :
    decode 0x00 = .error .reservedOp ∧ decode 0x0F = .error .reservedOp ∧
      decode 0x15 = .error .rawWithoutEncoder ∧ decode 0x24 = .error .reservedBits := ⟨rfl, rfl, rfl, rfl⟩

theorem test_decodeTableWord : decodeTableWord 8 0x14 = some .encaRaw ∧ decodeTableWord 8 0x0C = none := by decide

/-! ### Ill-formed lines (R48), one for each check -/

theorem test_wf_num : (AddrExpr.num 0x100).wellFormed = false ∧ (AddrExpr.num 0xFF).wellFormed = true := by decide
theorem test_wf_frame : (AddrExpr.framePlus 0xC0).wellFormed = false ∧ (AddrExpr.framePlus 0xBF).wellFormed = true := by
  decide
theorem test_wf_sym : (AddrExpr.symPlus 0xA0).wellFormed = false ∧ (AddrExpr.symPlus 0x9F).wellFormed = true := by
  decide
theorem test_wf_wr_addr : (Line.wr (.num 0x100) 0).wellFormed = false := by decide
theorem test_wf_wr_value : (Line.wr (.reg .inTemp) 0x100).wellFormed = false := by decide
theorem test_wf_rd : (Line.rd (.symPlus 0xA0)).wellFormed = false := by decide
theorem test_wf_expect_addr : (Line.expect (.framePlus 0xC0) 0).wellFormed = false := by decide
theorem test_wf_expect_value : (Line.expect (.reg .status) 0x100).wellFormed = false := by decide

/-- Program P4's lines and encodings: a comment is no access, a pseudo-instruction writes CTRL. -/
theorem test_assemble :
    assemble [.wr (.reg .tbWidth) 4, .comment "SYM", .pseudo .tobin, .expect (.framePlus 0) 0x85] =
      some [.wr 0x05 0x04, .wr 0x00 0x01, .expect 0x40 0x85] := by decide

/-- Lines of programs P1, P5 and P6, with a comment on the line and both number forms. -/
theorem test_readProgram :
    (readProgram ["WR FRAME+7, 0x23 ; vane 2, fan 2", "; note", "ENCA.raw", "EXPECT OUT_TIMER_OFF, 12", "RD 0x2B"]).bind
        assemble =
      some [.wr 0x47 0x23, .wr 0x00 0x14, .expect 0x29 0x0C, .rd 0x2B] := by decide

/-- A missing comma, a number without digits, a blank line, an unknown name, an address out of range. -/
theorem test_readProgram_refuses :
    readProgram ["WR IN_TEMP 24"] = none ∧ readProgram ["RD 0x"] = none ∧ readProgram [""] = none ∧
      readProgram ["RD IN_TEMPO"] = none ∧ (readProgram ["RD 256"]).bind assemble = none := by decide

/-! ### The vectors of spec/95_test_vectors.md -/

/-- The test-only parameter set T0 (section 0). -/
def t0 : Params where
  headerA := fun i => ([0x11, 0x22, 0x33, 0x44, 0x55] : List Byte).getD i 0
  headerB := fun i => ([0x66, 0x77, 0x88, 0x99, 0xAA] : List Byte).getD i 0
  powerAOff := 0x00
  powerBOn := 0x20
  powerBOff := 0x00
  econoBit := 5
  byte14Pad := 0x03
  footerB := fun i => ([0x12, 0x34] : List Byte).getD i 0

theorem test_t0_legal : t0.Legal := by unfold Params.Legal; decide

/-- Memory that holds `vs` from `FRAME[0]` on. -/
def frameMem (vs : List Byte) : Memory := Memory.writeBytes [] 0x40 vs

/-- STATUS, ERRINFO and the lengths of a next state. -/
def report : Result → List Byte
  | .next t => [t.status, t.errInfo, t.frameLen, t.symLen]
  | .fault f => nomatch f
  | .refused _ => []

/-- `n` bytes of FRAME from `FRAME[i]` on in a next state. -/
def frameOf (i n : Nat) : Result → List Byte
  | .next t => (List.range n).map fun k => t.frame (i + k)
  | .fault f => nomatch f
  | .refused _ => []

/-- OUT_VARIANT to OUT_TIMER_ON and OUT_CHECK of a next state. -/
def outOf : Result → List Byte
  | .next t =>
    [t.outVariant, t.outPower, t.outMode, t.outTemp, t.outFan, t.outVane, t.outIsee, t.outEcono, t.outTimer,
      t.outTimerOff, t.outTimerOn, t.outCheck]
  | .fault f => nomatch f
  | .refused _ => []

/-- The inputs of V-A1: on, cold, 24, fan 3, vane auto. -/
def inputsA1 : State := { State.reset with inPower := 1, inMode := 2, inTemp := 24, inFan := 3, inVane := 6 }

/-- The inputs of V-B2: on, heat, 16, quiet, move, i-see, econo, 23:59. -/
def inputsB2 : State :=
  { State.reset with
    inPower := 1, inTemp := 16, inFan := 5, inVane := 7, inIsee := 1, inEcono := 1, inHour := 23, inMinute := 59 }

/-- The V-A1 frame in layout order under T0. -/
def frameA1 : List Byte :=
  [0x11, 0x22, 0x33, 0x44, 0x55, 0x40, 0x81, 0xC5, 0x04, 0x00, 0x00, 0xBF, 0x7E, 0x3A, 0xFB, 0xFF, 0xFF]

/-- The V-B1 frame in layout order under T0. -/
def frameB1 : List Byte :=
  [0x66, 0x77, 0x88, 0x99, 0xAA, 0x20, 0x18, 0x08, 0x36, 0x40, 0x3F, 0x00, 0x00, 0x00, 0x03, 0x12, 0x34, 0xE6]

theorem test_rev8 : rev8 0xC5 = 0xA3 ∧ rev8 0x85 = 0xA1 ∧ rev8 0x01 = 0x80 := by decide

/-- V-T7: 0xA5 in 8 digits at the end of SYM. -/
theorem test_tobin_V_T7 :
    (match exec .tobin { State.reset with tbWidth := 8, tbOffset := 136, tbValueLo := 0xA5 } with
      | .next t => (t.status, t.symLen, (List.range 8).map fun k => t.sym (136 + k))
      | _ => (0, 0, [])) = (0x01, 144, [0x31, 0x30, 0x31, 0x30, 0x30, 0x31, 0x30, 0x31]) := by decide

/-- V-T10: the width is tested first. -/
theorem test_tobin_V_T10 :
    report (exec .tobin { State.reset with tbOffset := 200, tbValueHi := 0x01, tbValueLo := 0xFF }) =
      [0x05, 11, 0, 0] := by decide

/-- V-P3: mixed symbol forms. -/
theorem test_parse_V_P3 :
    frameOf 0 3 (exec .parse { State.reset with
      symLen := 9, mem := Memory.writeBytes [] 0x60 [0x31, 0x00, 0x31, 0x01, 0x30, 0x01, 0x00, 0x31, 0x01] }) =
      [0xB5, 0x80, 0x00] := by decide

/-- V-P4: the first non-symbol is at index 3. -/
theorem test_parse_V_P4 :
    report (exec .parse { State.reset with
      symLen := 5, mem := Memory.writeBytes [] 0x60 [0x30, 0x31, 0x30, 0x32, 0x35] }) = [0x09, 3, 0, 5] := by decide

/-- V-R2: byte 1 is past the length. -/
theorem test_rev_V_R2 :
    frameOf 0 2 (exec .rev { State.reset with frameLen := 8, mem := frameMem [0x40, 0xC5] }) = [0x02, 0xC5] := by decide

/-- V-R4: 12 bits are not whole bytes. -/
theorem test_rev_V_R4 :
    report (exec .rev { State.reset with frameLen := 12, mem := frameMem [0x40, 0xC5] }) = [0x09, 0xFF, 12, 0] := by
  decide

/-- V-A6: wire order under T0. -/
theorem test_enca_V_A6 :
    frameOf 0 18 (perform .enca (encaChecks t0) (encaEffect t0) inputsA1) =
      [0x88, 0x44, 0xCC, 0x22, 0xAA, 0x02, 0x81, 0xA3, 0x20, 0x00, 0x00, 0xFD, 0x7E, 0x5C, 0xDF, 0xFF, 0xFF, 0x00] := by
  decide

/-- V-A13: several wrong inputs; the lowest field id is reported. -/
theorem test_enca_V_A13 :
    report (perform .enca (encaChecks t0) (encaEffect t0)
      { State.reset with inPower := 2, inMode := 9, inTemp := 15, inFan := 5, inVane := 9 }) = [0x05, 1, 0, 0] := by
  decide

/-- V-A3: on, dry, 31, fan 4, vane 3, in layout order. -/
theorem test_enca_raw_V_A3 :
    frameOf 5 12 (perform .encaRaw (encaChecks t0) (encaEffect t0)
      { State.reset with inPower := 1, inMode := 1, inTemp := 31, inFan := 4, inVane := 3 }) =
      [0x40, 0xF5, 0x37, 0x04, 0x00, 0x00, 0xBF, 0x0A, 0xC8, 0xFB, 0xFF, 0xFF] := by decide

/-- V-A11: a vane variant A lacks. -/
theorem test_enca_raw_V_A11 :
    report (perform .encaRaw (encaChecks t0) (encaEffect t0) { inputsA1 with inVane := 4 }) = [0x05, 5, 0, 0] := by decide

/-- V-DA14: a timer mode is decoded, and the checksum is bad. -/
theorem test_deca_V_DA14 :
    outOf (perform .deca (structureChecksA t0) decaEffect
      { State.reset with frameLen := 136, mem := frameMem (frameA1.set 8 0x07) }) =
      [1, 1, 2, 24, 3, 6, 0, 0, 3, 0, 0, 2] := by decide

/-- V-DA12: bit 0 of byte 7 is 0. -/
theorem test_deca_V_DA12 :
    report (perform .deca (structureChecksA t0) decaEffect
      { State.reset with frameLen := 136, mem := frameMem (frameA1.set 7 0xC4) }) = [0x09, 7, 136, 0] := by decide

/-- V-CA6. -/
theorem test_csuma_gen_V_CA6 :
    frameOf 11 6 (exec .csumaGen
      { State.reset with frameLen := 136, mem := frameMem [0, 0, 0, 0, 0, 0x40, 0x53, 0x23, 0x06, 0x0C] }) =
      [0xBF, 0xAC, 0xDC, 0xF9, 0xF3, 0xFF] := by decide

/-- V-CA2: the length is 144. -/
theorem test_csuma_gen_V_CA2 :
    report (exec .csumaGen { State.reset with frameLen := 144, mem := frameMem frameA1 }) = [0x09, 0xFF, 144, 0] := by
  decide

/-- V-CA4: one checksum bit is wrong. -/
theorem test_csuma_chk_V_CA4 :
    (outOf (exec .csumaChk { State.reset with frameLen := 136, mem := frameMem (frameA1.set 16 0xFE) })).getD 11 0 = 2 := by
  decide

/-- V-CA3. -/
theorem test_csuma_chk_V_CA3 :
    (outOf (exec .csumaChk { State.reset with frameLen := 136, mem := frameMem frameA1 })).getD 11 0 = 1 := by decide

/-- V-B8: V-B1's inputs, wire order under T0. -/
theorem test_encb_V_B8 :
    frameOf 0 18 (perform .encb (encbChecks t0) (encbEffect t0)
      { State.reset with inPower := 1, inMode := 2, inTemp := 24, inVane := 6, inHour := 10, inMinute := 35 }) =
      [0x66, 0xEE, 0x11, 0x99, 0x55, 0x04, 0x18, 0x10, 0x6C, 0x02, 0xFC, 0x00, 0x00, 0x00, 0xC0, 0x48, 0x2C, 0x67] := by
  decide

/-- V-B14: hour 24. -/
theorem test_encb_V_B14 :
    report (perform .encb (encbChecks t0) (encbEffect t0)
      { State.reset with inTemp := 24, inVane := 6, inHour := 24 }) = [0x05, 8, 0, 0] := by decide

/-- V-B2: boundary temperature, quiet, move, i-see, econo. -/
theorem test_encb_raw_V_B2 :
    frameOf 5 13 (perform .encbRaw (encbChecks t0) (encbEffect t0) inputsB2) =
      [0x20, 0x48, 0x00, 0x30, 0xBD, 0x8F, 0x00, 0x00, 0x00, 0x23, 0x12, 0x34, 0xF5] := by decide

/-- V-B9: vane 0 is not a variant B vane. -/
theorem test_encb_raw_V_B9 :
    report (perform .encbRaw (encbChecks t0) (encbEffect t0) { State.reset with inTemp := 24 }) = [0x05, 5, 0, 0] := by
  decide

/-- V-DB19: the econo bit set; the checksum no longer fits. -/
theorem test_decb_V_DB19 :
    outOf (perform .decb (structureChecksB t0) (decbEffect t0)
      { State.reset with frameLen := 144, mem := frameMem (frameB1.set 14 0x23) }) =
      [2, 1, 2, 24, 0, 6, 0, 1, 0, 0, 0, 2] := by decide

/-- V-DB4: the footer is tested with index 15. -/
theorem test_decb_V_DB4 :
    report (perform .decb (structureChecksB t0) (decbEffect t0)
      { State.reset with frameLen := 144, mem := frameMem (frameB1.set 15 0x00) }) = [0x09, 15, 144, 0] := by decide

/-- V-CB2: the sum of seventeen 0xFF bytes. -/
theorem test_csumb_gen_V_CB2 :
    frameOf 17 1 (exec .csumbGen { State.reset with frameLen := 144, mem := frameMem (List.replicate 17 0xFF) }) =
      [0xEF] := by decide

/-- V-CB7. -/
theorem test_csumb_gen_V_CB7 :
    report (exec .csumbGen { State.reset with frameLen := 136 }) = [0x09, 0xFF, 136, 0] := by decide

/-- V-CB4: the checksum byte is one too high. -/
theorem test_csumb_chk_V_CB4 :
    (outOf (exec .csumbChk { State.reset with
      frameLen := 144, mem := frameMem (List.replicate 17 0x01 ++ [0x12]) })).getD 11 0 = 2 := by decide

/-- V-CB6: the length error clears OUT_CHECK. -/
theorem test_csumb_chk_V_CB6 :
    report (exec .csumbChk { State.reset with frameLen := 136, outCheck := 1 }) = [0x09, 0xFF, 136, 0] := by decide

/-- An illegal CTRL byte after a decode leaves VALID (section 2.11: STATUS = 0x13). -/
theorem test_illegal_keeps_valid :
    report (memWrite 0x00 0x0C { State.reset with status := 0x03, outCheck := 1 }) = [0x13, 0x0C, 0, 0] := by decide

/-! ### Witnesses: for each obligation with hypotheses, states and operands that meet them, clause by clause -/

theorem witness_DecodeAndEncodeAgree :
    Instr.wellFormed .encbRaw = true ∧ decode 0x18 = .ok .encbRaw ∧ (0x18 : Byte) ∈ legalCtrl ∧ 0x19 ∉ legalCtrl :=
  ⟨rfl, rfl, by decide, by decide⟩

/-- A state whose host is about to make one access. -/
def pendingState (e : HostEvent) : State := State.reset.setPending [e]

/-- A write elsewhere than to CTRL, of an illegal CTRL byte, and of a legal one. -/
theorem witness_StepRunsDecodedOperation :
    (∀ e ∈ [HostEvent.wr 0xEF 0x31, .wr 0x00 0x0C, .wr 0x00 0x02],
      (pendingState e).host.pending = e :: [] ∧ (pendingState e).host.resetLine = false) ∧
      Instr.wellFormed .parse = true ∧ decode 0x02 = .ok .parse ∧ decodeTableWord 8 0x02 = some .parse := by decide

theorem witness_RevByteReversesBits : (7 : Nat) < 8 := by decide

/-- Illegal bytes at both ends, at OP 0, at each edge of the legal OPs, with RAW, with RES. -/
theorem witness_IllegalCtrlByteIsReported :
    ∀ b ∈ ([0x00, 0x0C, 0x0F, 0x10, 0x13, 0x15, 0x19, 0x20, 0xFF] : List Byte), b ∉ legalCtrl := by decide

theorem witness_HostReadsTheMap :
    (17 : Nat) < 18 ∧ (143 : Nat) < 144 ∧
      (∀ a ∈ ([0x09, 0x0F, 0x19, 0x1F, 0x2C, 0x3F, 0x52, 0x5F, 0xF0, 0xFF] : List Byte), reservedAddr a) ∧
      (∀ e ∈ [HostEvent.rd 0x40, .expect 0x40 0x85],
        (pendingState e).host.pending = e :: [] ∧ (pendingState e).host.resetLine = false) := by
  refine ⟨by decide, by decide, ?_, by decide⟩
  unfold reservedAddr; decide

theorem witness_HostWritesTheMap :
    (∀ a ∈ ([0x40, 0x51, 0x60, 0xEF] : List Byte),
      (0x40 ≤ a.toNat ∧ a.toNat ≤ 0x51) ∨ (0x60 ≤ a.toNat ∧ a.toNat ≤ 0xEF)) ∧
      (∀ a ∈ ([0x01, 0x02, 0x20, 0x2B, 0x09, 0x0F, 0x19, 0x1F, 0x2C, 0x3F, 0x52, 0x5F, 0xF0, 0xFF] : List Byte),
        a = 0x01 ∨ a = 0x02 ∨ (0x20 ≤ a.toNat ∧ a.toNat ≤ 0x2B) ∨ reservedAddr a) ∧
      decode 0x0B = .ok .csumbChk ∧ (0x0C : Byte) ∉ legalCtrl := by
  unfold reservedAddr
  exact ⟨by decide, by decide, rfl, by decide⟩

theorem witness_WriteReadsBack :
    (∀ a ∈ ([0x03, 0x08, 0x10, 0x18, 0x40, 0x51, 0x60, 0xEF] : List Byte), a ≠ 0x00 ∧ writable a) ∧
      (∀ a ∈ ([0x01, 0x02, 0x09, 0x0F, 0x19, 0x20, 0x2B, 0x3F, 0x52, 0x5F, 0xF0, 0xFF] : List Byte),
        a ≠ 0x00 ∧ ¬ writable a) := by
  unfold writable; decide

/-- The reset input asserted, with one event pending. -/
def heldState (e : HostEvent) : State := (pendingState e).setResetLine true

theorem witness_ResetInputHoldsResetState :
    (pendingState (.resetInput true)).host.pending = .resetInput true :: [] ∧
      (∀ e ∈ [HostEvent.resetInput false, .wr 0x00 0x02, .rd 0x01, .expect 0x01 0x00],
        (heldState e).host.pending = e :: [] ∧ (heldState e).host.resetLine = true) ∧
      (State.reset.setResetLine true).host.pending = [] ∧ (State.reset.setResetLine true).host.resetLine = true := by
  decide

theorem witness_NothingStopsTheBlock : State.reset.host.pending = [] ∧ State.reset.host.resetLine = false := by decide

theorem witness_OperationsInTheResetState :
    ((0x03, 0x01, 0) : Byte × Byte × Byte) ∈ ([(0x02, 0x01, 0), (0x03, 0x01, 0)] : List (Byte × Byte × Byte)) := by
  decide

/-- A line of each form just out of range, and lines of every form within it. -/
theorem witness_HostProgramAssembles :
    (∀ l ∈ [Line.wr (.num 256) 0, .wr (.reg .ctrl) 256, .rd (.framePlus 192), .expect (.symPlus 160) 0], ¬ lineInRange l) ∧
      ∀ l ∈ [Line.wr (.num 255) 255, .rd (.framePlus 191), .expect (.symPlus 159) 255, .rd (.reg .outCheck), .pseudo .rev,
        .comment "note"], lineInRange l := by
  constructor <;> simp [lineInRange, addressNumber, registerAddress]

/-- The lists of HostTextNamesAreRead have rows; the last of the two long ones, and a refused text. -/
theorem witness_HostTextNamesAreRead :
    ("CSUMB_CHK", (0x0B : Byte)) ∈ [("CSUMB_GEN", 0x0A), ("CSUMB_CHK", 0x0B)] ∧
      ("OUT_CHECK", (0x2B : Byte)) ∈ [("OUT_TIMER_ON", 0x2A), ("OUT_CHECK", 0x2B)] ∧
      "RD FRAME+192" ∈ ["WR 0, 256", "RD FRAME+192"] := by decide

/-- TOBIN: widths 0 and 17, a sum of 145, a value of 2 ^ w, and success at width 16 and offset 128. -/
theorem witness_TobinRendersDigits :
    (({ State.reset with tbWidth := 0 } : State).tbWidth.toNat = 0) ∧
      ((17 : Byte).toNat = 17 ∧ (17 : Nat) > 16) ∧
      ((1 : Byte).toNat = 1 ∧ (144 : Byte).toNat = 144 ∧ 144 + 1 > 144) ∧
      (operandValue { State.reset with tbWidth := 4, tbValueLo := 16 } ≥ 2 ^ 4 ∧ 0 + 4 ≤ 144) ∧
      (operandValue { State.reset with tbWidth := 16, tbOffset := 128, tbValueLo := 0xFF, tbValueHi := 0xFF } < 2 ^ 16 ∧
        128 + 16 ≤ 144) := by decide

/-- PARSE: 145 symbols, a bad symbol at the last index, no symbol, and 144 symbols. -/
theorem witness_ParsePacksSymbols :
    (({ State.reset with symLen := 145 } : State).symLen.toNat > 144) ∧
      ((3 : Byte).toNat = 3 ∧
        ¬ symbol (({ State.reset with symLen := 3, mem := [(0x62, 0x02)] } : State).mem.read (0x60 + 2)) ∧
        ∀ i, i < 2 → symbol (({ State.reset with symLen := 3, mem := [(0x62, 0x02)] } : State).mem.read (0x60 + i))) ∧
      (∀ j, j < State.reset.symLen.toNat → symbol (State.reset.mem.read (0x60 + j))) ∧
      (∀ j, j < ({ State.reset with symLen := 144 } : State).symLen.toNat →
        symbol (({ State.reset with symLen := 144 } : State).mem.read (0x60 + j))) := by
  unfold symbol
  refine ⟨by decide, by decide, by decide, fun j _ => .inl rfl⟩

/-- REV: 145, 152 and 12 bits refused; 0 and 144 bits reversed. -/
theorem witness_RevReversesEachByte :
    ((145 : Byte).toNat > 144 ∧ (152 : Byte).toNat > 144 ∧ (12 : Byte).toNat % 8 ≠ 0) ∧
      (State.reset.frameLen.toNat ≤ 144 ∧ State.reset.frameLen.toNat % 8 = 0) ∧
      (({ State.reset with frameLen := 144 } : State).frameLen.toNat ≤ 144 ∧ (144 : Byte).toNat % 8 = 0 ∧ 17 < 144 / 8) := by
  decide

theorem witness_RevTwiceRestoresFrame :
    ({ State.reset with frameLen := 144, mem := frameMem [0x40, 0xC5] } : State).frameLen.toNat % 8 = 0 ∧
      ({ State.reset with frameLen := 144, mem := frameMem [0x40, 0xC5] } : State).frameLen.toNat ≤ 144 := by decide

theorem witness_TobinThenParsePacksField :
    ({ State.reset with tbWidth := 8, tbValueLo := 0xA5 } : State).tbOffset = 0 ∧
      1 ≤ (8 : Byte).toNat ∧ (8 : Byte).toNat ≤ 16 ∧
      operandValue { State.reset with tbWidth := 8, tbValueLo := 0xA5 } < 2 ^ 8 := by decide

/-- Legal variant A inputs, the boundary ones too, and one illegal value of each field. -/
theorem witness_EncaWritesVariantAFrame :
    inputErrorA inputsA1 = none ∧
      inputErrorA { State.reset with inTemp := 16, inFan := 1 } = none ∧
      inputErrorA { State.reset with inPower := 1, inMode := 4, inTemp := 31, inFan := 4, inVane := 6 } = none ∧
      inputErrorA { inputsA1 with inPower := 2 } = some 1 ∧ inputErrorA { inputsA1 with inMode := 5 } = some 2 ∧
      inputErrorA { inputsA1 with inTemp := 32 } = some 3 ∧ inputErrorA { inputsA1 with inTemp := 15 } = some 3 ∧
      inputErrorA { inputsA1 with inFan := 0 } = some 4 ∧ inputErrorA { inputsA1 with inVane := 4 } = some 5 := by decide

/-- Legal variant B inputs and one illegal value of each field. -/
theorem witness_EncbWritesVariantBFrame :
    inputErrorB inputsB2 = none ∧ inputErrorB { State.reset with inTemp := 31, inVane := 1 } = none ∧
      inputErrorB { inputsB2 with inPower := 2 } = some 1 ∧ inputErrorB { inputsB2 with inMode := 5 } = some 2 ∧
      inputErrorB { inputsB2 with inTemp := 32 } = some 3 ∧ inputErrorB { inputsB2 with inFan := 6 } = some 4 ∧
      inputErrorB { inputsB2 with inVane := 0 } = some 5 ∧ inputErrorB { inputsB2 with inVane := 8 } = some 5 ∧
      inputErrorB { inputsB2 with inIsee := 2 } = some 6 ∧ inputErrorB { inputsB2 with inEcono := 2 } = some 7 ∧
      inputErrorB { inputsB2 with inHour := 24 } = some 8 ∧ inputErrorB { inputsB2 with inMinute := 60 } = some 9 := by
  decide

theorem witness_VariantARoundTrip : inputErrorA inputsA1 = none := by decide

theorem witness_VariantBRoundTrip : inputErrorB inputsB2 = none := by decide

theorem witness_BeeperMarksBoundaryTemperature :
    inputErrorB inputsB2 = none ∧ inputsB2.inTemp = 16 ∧ inputErrorB { inputsB2 with inTemp := 17 } = none := by decide

/-- A byte of memory written from FRAME on. -/
theorem read_frameMem (vs : List Byte) (i : Nat) (h : i < vs.length) : (frameMem vs).read (0x40 + i) = vs.getD i 0 := by
  rw [frameMem, Memory.read_writeBytes, if_pos ⟨by omega, by omega⟩, Nat.add_sub_cancel_left]

/-- A variant A frame of this instance: V-A1's bytes after HEADER_A. -/
def instanceFrameA : List Byte :=
  [Config.params.headerA 0, Config.params.headerA 1, Config.params.headerA 2, Config.params.headerA 3,
   Config.params.headerA 4, 0x40, 0x81, 0xC5, 0x04, 0x00, 0x00, 0xBF, 0x7E, 0x3A, 0xFB, 0xFF, 0xFF]

/-- FRAME holds that frame. -/
def stateA : State := { State.reset with frameLen := 136, mem := frameMem instanceFrameA }

theorem stateA_frame (i : Nat) (h : i < 17) : stateA.mem.read (0x40 + i) = instanceFrameA.getD i 0 :=
  read_frameMem _ i h

/-- A variant B frame of this instance: V-B1's bytes, with the instance's parameters and no econo. -/
def instanceBodyB : List Byte :=
  [Config.params.headerB 0, Config.params.headerB 1, Config.params.headerB 2, Config.params.headerB 3,
   Config.params.headerB 4, Config.params.powerBOn, 0x18, 0x08, 0x36, 0x40, 0x3F, 0x00, 0x00, 0x00,
   Config.params.byte14Pad, Config.params.footerB 0, Config.params.footerB 1]

/-- FRAME holds that body and its checksum byte. -/
def stateB : State := { State.reset with frameLen := 144, mem := frameMem (instanceBodyB ++ [csumB instanceBodyB]) }

theorem stateB_frame (i : Nat) (h : i < 18) :
    stateB.mem.read (0x40 + i) = (instanceBodyB ++ [csumB instanceBodyB]).getD i 0 :=
  read_frameMem _ i h

/-- DECA: a right structure, a wrong length, and no frame at all. -/
theorem witness_DecaDecodesVariantAFrame :
    structureErrorA stateA = none ∧ structureErrorA { stateA with frameLen := 135 } = some 0xFF ∧
      structureErrorA State.reset = some 0xFF := by
  refine ⟨?_, rfl, rfl⟩
  unfold structureErrorA
  simp only [stateA_frame 0 (by omega), stateA_frame 1 (by omega), stateA_frame 2 (by omega),
    stateA_frame 3 (by omega), stateA_frame 4 (by omega), stateA_frame 5 (by omega), stateA_frame 6 (by omega),
    stateA_frame 7 (by omega), stateA_frame 8 (by omega)]
  simp [instanceFrameA, stateA]

theorem witness_DecbDecodesVariantBFrame :
    structureErrorB stateB = none ∧ structureErrorB { stateB with frameLen := 136 } = some 0xFF ∧
      structureErrorB State.reset = some 0xFF := by
  refine ⟨?_, rfl, rfl⟩
  unfold structureErrorB
  simp only [stateB_frame 0 (by omega), stateB_frame 1 (by omega), stateB_frame 2 (by omega),
    stateB_frame 3 (by omega), stateB_frame 4 (by omega), stateB_frame 5 (by omega), stateB_frame 6 (by omega),
    stateB_frame 9 (by omega), stateB_frame 15 (by omega), stateB_frame 16 (by omega)]
  simp [instanceBodyB, stateB]

/-- CSUMA_GEN and CSUMA_CHK: both lengths, a checksum that holds and one that does not. -/
theorem witness_CsumaChkComparesComplements :
    stateA.frameLen = 136 ∧ ({ State.reset with frameLen := 144 } : State).frameLen ≠ 136 ∧
      checksumA { State.reset with frameLen := 136, mem := frameMem frameA1 } ∧
      ¬ checksumA { State.reset with frameLen := 136, mem := frameMem (frameA1.set 16 0xFE) } := by decide

/-- CSUMB_GEN and CSUMB_CHK: both lengths, a checksum that holds and one that does not. -/
theorem witness_CsumbChkComparesSum :
    stateB.frameLen = 144 ∧ ({ State.reset with frameLen := 136 } : State).frameLen ≠ 144 ∧
      checksumB { State.reset with frameLen := 144, mem := frameMem frameB1 } ∧
      ¬ checksumB { State.reset with frameLen := 144, mem := frameMem (frameB1.set 17 0x00) } := by decide

theorem witness_CsumaGenWritesComplements :
    stateA.frameLen = 136 ∧ ({ State.reset with frameLen := 135 } : State).frameLen ≠ 136 := by decide

theorem witness_CsumbGenWritesSum :
    stateB.frameLen = 144 ∧ ({ State.reset with frameLen := 145 } : State).frameLen ≠ 144 := by decide

/-- A byte of FRAME of those two states. -/
theorem stateA_byte (i : Nat) (h : i < 17) (c : Byte) : (stateA.setCtrl c).frame i = instanceFrameA.getD i 0 :=
  stateA_frame i h

theorem stateB_byte (i : Nat) (h : i < 18) (c : Byte) :
    (stateB.setCtrl c).frame i = (instanceBodyB ++ [csumB instanceBodyB]).getD i 0 :=
  stateB_frame i h

theorem stateA_checks (c : Byte) : firstFailure (structureChecksA Config.params (stateA.setCtrl c)) = none := by
  unfold structureChecksA
  simp only [firstFailure_failIf, firstFailure_nil, stateA_byte 0 (by omega), stateA_byte 1 (by omega),
    stateA_byte 2 (by omega), stateA_byte 3 (by omega), stateA_byte 4 (by omega), stateA_byte 5 (by omega),
    stateA_byte 6 (by omega), stateA_byte 7 (by omega), stateA_byte 8 (by omega)]
  simp [instanceFrameA, stateA, slice, modeTableA]

theorem stateB_checks (c : Byte) : firstFailure (structureChecksB Config.params (stateB.setCtrl c)) = none := by
  unfold structureChecksB
  simp only [firstFailure_failIf, firstFailure_nil, stateB_byte 0 (by omega), stateB_byte 1 (by omega),
    stateB_byte 2 (by omega), stateB_byte 3 (by omega), stateB_byte 4 (by omega), stateB_byte 5 (by omega),
    stateB_byte 6 (by omega), stateB_byte 9 (by omega), stateB_byte 15 (by omega), stateB_byte 16 (by omega)]
  simp [instanceBodyB, stateB, slice, modeTableB6]

/-- A decode of a right variant A frame with a right checksum; the first and the last bit of the checksum block. -/
theorem witness_VariantAChecksumBitFlipIsReported :
    (∃ t : State, exec .deca stateA = .next t ∧ t.outCheck = 1) ∧
      ((11 : Nat) ≤ 11 ∧ (11 : Nat) ≤ 16 ∧ (0 : Nat) < 8) ∧ ((11 : Nat) ≤ 16 ∧ (16 : Nat) ≤ 16 ∧ (7 : Nat) < 8) := by
  refine ⟨⟨_, perform_ok _ _ _ _ (stateA_checks _), ?_⟩, by decide, by decide⟩
  show verdict (checksumOkA (stateA.setCtrl 0x05)) = 1
  have : checksumOkA (stateA.setCtrl 0x05) = true := by
    rw [checksumOkA, List.all_eq_true]
    intro i hi
    have hi' : i < 6 := List.mem_range.1 hi
    rw [stateA_byte (11 + i) (by omega), stateA_byte (5 + i) (by omega)]
    interval_cases i <;> rfl
  rw [this]; rfl

/-- A decode of a right variant B frame with a right checksum; the listed bits exist. -/
theorem witness_VariantBSumOnlyBitFlipIsReported :
    (∃ t : State, exec .decb stateB = .next t ∧ t.outCheck = 1) ∧ (7 : Nat) < 8 ∧ ((7 : Nat) = 7 ∧ (4 : Nat) ≤ 4) ∧
      ((9 : Nat) = 9 ∧ (6 : Nat) ≤ 6) ∧ (∃ b, b < 8 ∧ b ≠ (Config.params.econoBit : Nat)) := by
  refine ⟨⟨_, perform_ok _ _ _ _ (stateB_checks _), ?_⟩, by decide, by decide, by decide, ?_⟩
  · show verdict (checksumOkB (stateB.setCtrl 0x09)) = 1
    have : checksumOkB (stateB.setCtrl 0x09) = true := by
      have h : summedBytes (stateB.setCtrl 0x09) = instanceBodyB := by
        have h2 : ∀ i ∈ List.range 17, (stateB.setCtrl 0x09).frame i = instanceBodyB.getD i 0 := by
          intro i hi
          have hi' : i < 17 := List.mem_range.1 hi
          rw [stateB_byte i (by omega), List.getD_append _ _ _ _ (by simpa [instanceBodyB] using hi')]
        rw [summedBytes, List.map_congr_left h2]
        rfl
      rw [checksumOkB, h, stateB_byte 17 (by omega)]
      simp [instanceBodyB]
    rw [this]; rfl
  · by_cases h : (Config.params.econoBit : Nat) = 0
    · exact ⟨1, by decide, by omega⟩
    · exact ⟨0, by decide, by omega⟩

/-- A completed operation and a failed one; an operation that leaves each register and buffer. -/
theorem witness_EveryOperationCommitsWhole :
    (∃ t : State, exec .rev State.reset = .next t ∧ t.status.extractLsb' 2 3 = 0) ∧
      (∃ t : State, exec .decb State.reset = .next t ∧ t.status.extractLsb' 2 3 ≠ 0) :=
  ⟨⟨_, rfl, by decide⟩, ⟨_, rfl, by decide⟩⟩

theorem witness_OnlyNamedOperationsWrite :
    (0x0C : Byte) ∉ ([0x05, 0x09] : List Byte) ∧ (0x06 : Byte) ∉ ([0x05, 0x07, 0x09, 0x0B] : List Byte) ∧
      (0x03 : Byte) ∉ ([0x02, 0x04, 0x08, 0x14, 0x18] : List Byte) ∧ (0x02 : Byte) ≠ 0x01 ∧
      (0x01 : Byte) ∉ ([0x02, 0x03, 0x04, 0x06, 0x08, 0x0A, 0x14, 0x18] : List Byte) := by decide

/-- Two states that differ outside the operands. -/
theorem witness_OperationsReadOnlyTheirOperands :
    sameOperands .enca inputsA1 { inputsA1 with frameLen := 7, inIsee := 9, outCheck := 2 } ∧
      sameOperands .csumaChk { stateA with outTemp := 20 } stateA := by
  constructor
  · simp [sameOperands, sameCommandA]
  · simp [sameOperands, sameFrame]

theorem witness_RepeatedCtrlWriteIsIdempotent :
    MemoryOk { State.reset with frameLen := 144, mem := frameMem frameB1 } ∧ (0x0A : Byte) ≠ 0x03 := by
  unfold MemoryOk; decide

/-- A state in which the host is about to write TOBIN to CTRL; it meets the four invariants, and the step is a next state. -/
def tobinState : State := { pendingState (.wr 0x00 0x01) with tbWidth := 4, tbValueLo := 9 }

theorem witness_StepKeepsMemoryCanonical : MemoryOk tobinState ∧ ∃ t : State, step tobinState = .next t :=
  ⟨by unfold MemoryOk; decide, _, rfl⟩

theorem witness_StepKeepsStatusLegal : StatusOk tobinState ∧ ∃ t : State, step tobinState = .next t :=
  ⟨by unfold StatusOk; decide, _, rfl⟩

theorem witness_StepKeepsOutputsLegal : OutputsOk tobinState ∧ ∃ t : State, step tobinState = .next t :=
  ⟨by unfold OutputsOk OutputsA OutputsB; decide, _, rfl⟩

theorem witness_StepKeepsResetHeld :
    ResetHeld (heldState (.wr 0x00 0x01)) ∧ (heldState (.wr 0x00 0x01)).host.resetLine = true ∧
      ∃ t : State, step (heldState (.wr 0x00 0x01)) = .next t :=
  ⟨by unfold ResetHeld; decide, rfl, _, rfl⟩

/-- A run of one step from a state with a pending EXPECT that holds (R48). -/
theorem test_expect_holds : GoodRun 1 (pendingState (.expect 0x03 0x00)) := ⟨_, rfl, by unfold ClaimsHold; decide⟩

end Sys2Proof.Tests
end

section
/-! PROOFS. The statements of spec/00_scope.md: the constraints of the parameters (R7 to R9), and that an operation is a
pure function of its operands (R2). -/

namespace Sys2Proof.Scope

open Sys2Proof.Machine Sys2Proof.Claim

/-! ### The parameters -/

/-- The off pattern counts up from 0x41 and stops one short of a whole turn (R7). -/
theorem powerAOff_ne_powerAOn (k : Fin 255) : (0x41 : Byte) + BitVec.ofNat 8 k ≠ Config.powerAOn := by
  bv_omega

/-- A byte and the same byte with one bit flipped differ in that bit only (R8). -/
theorem popcount_xor_flipped_bit (b : Byte) (k : Fin 8) :
    popcount ((b ^^^ ((1 : Byte) <<< (k : Nat))) ^^^ b) = 1 := by
  have hone : ∀ j : Fin 8, popcount ((1 : Byte) <<< (j : Nat)) = 1 := by decide
  rw [BitVec.xor_comm, ← BitVec.xor_assoc, BitVec.xor_self, BitVec.zero_xor]
  exact hone k

theorem getLsbD_clear_bit (b : Byte) (k : Fin 8) : (b &&& ~~~((1 : Byte) <<< (k : Nat))).getLsbD k = false := by
  simp

/-- Settles O5: each constraint holds for every value of the opaque constants. -/
theorem parametersAreLegal : Obligations.ParametersAreLegal :=
  ⟨powerAOff_ne_powerAOn _, popcount_xor_flipped_bit _ _, getLsbD_clear_bit _ _⟩

/-! ### Agreement on a stretch of FRAME -/

section Agreement

variable {s t : State}

theorem sameFrame_mono {lo hi lo' hi' : Nat} (h : sameFrame s t lo hi) (hlo : lo ≤ lo') (hhi : hi' ≤ hi) :
    sameFrame s t lo' hi' :=
  fun i h1 h2 => h i (hlo.trans h1) (h2.trans_le hhi)

theorem frame_eq_of_sameFrame {lo hi : Nat} (h : sameFrame s t lo hi) (i : Nat) (h1 : lo ≤ i) (h2 : i < hi) :
    s.frame i = t.frame i := h i h1 h2

/-- Two states in which the same bytes were written agree on these bytes, whatever stood there before. -/
theorem sameFrame_writeFrame (s t : State) (k : Nat) {vs ws : List Byte} (h : vs = ws) :
    sameFrame (s.writeFrame k vs) (t.writeFrame k ws) k (k + vs.length) := by
  subst h
  intro i h1 h2
  change (s.writeFrame k vs).frame i = (t.writeFrame k vs).frame i
  rw [State.frame_writeFrame, State.frame_writeFrame, if_pos ⟨h1, h2⟩, if_pos ⟨h1, h2⟩]

/-! ### What the operations compute from their operands -/

theorem tbValue_congr (hlo : s.tbValueLo = t.tbValueLo) (hhi : s.tbValueHi = t.tbValueHi) : tbValue s = tbValue t := by
  rw [tbValue, tbValue, hlo, hhi]

theorem packedByte_congr (n i : Nat) (h : ∀ j, j < n → s.sym j = t.sym j) :
    packedByte s n i = packedByte t n i := by
  unfold packedByte
  congr 1
  funext p
  by_cases hp : 8 * i + (7 - p) < n
  · rw [h _ hp]
  · simp [hp]

theorem inputChecksA_congr (h : sameCommandA s t) : inputChecksA s = inputChecksA t := by
  obtain ⟨hpower, hmode, htemp, hfan, hvane⟩ := h
  simp only [inputChecksA, hpower, hmode, htemp, hfan, hvane]

theorem assembleA_congr (p : Params) (h : sameCommandA s t) : assembleA p s = assembleA p t := by
  obtain ⟨hpower, hmode, htemp, hfan, hvane⟩ := h
  simp only [assembleA, Machine.bodyA, hpower, hmode, htemp, hfan, hvane]

theorem encaChecks_congr (p : Params) (h : sameCommandA s t) : encaChecks p s = encaChecks p t := by
  rw [encaChecks, encaChecks, inputChecksA_congr h, assembleA_congr p h]

theorem inputChecksB_congr (h : sameCommandB s t) : inputChecksB s = inputChecksB t := by
  obtain ⟨⟨hpower, hmode, htemp, hfan, hvane⟩, hisee, hecono, hhour, hminute⟩ := h
  simp only [inputChecksB, hpower, hmode, htemp, hfan, hvane, hisee, hecono, hhour, hminute]

theorem assembleB_congr (p : Params) (h : sameCommandB s t) : assembleB p s = assembleB p t := by
  obtain ⟨⟨hpower, hmode, htemp, hfan, hvane⟩, hisee, hecono, hhour, hminute⟩ := h
  simp only [assembleB, Machine.bodyB, hpower, hmode, htemp, hfan, hvane, hisee, hecono, hhour, hminute]

theorem encbChecks_congr (p : Params) (h : sameCommandB s t) : encbChecks p s = encbChecks p t := by
  rw [encbChecks, encbChecks, inputChecksB_congr h, assembleB_congr p h]

theorem structureChecksA_congr (p : Params) (hlen : s.frameLen = t.frameLen) (h : sameFrame s t 0 17) :
    structureChecksA p s = structureChecksA p t := by
  have hf := frame_eq_of_sameFrame h
  simp [structureChecksA, hlen, hf]

theorem fieldsA_congr (h : sameFrame s t 0 17) : fieldsA s = fieldsA t := by
  have hf := frame_eq_of_sameFrame h
  simp [fieldsA, hf]

theorem checksumOkA_congr (h : sameFrame s t 5 17) : checksumOkA s = checksumOkA t := by
  rw [Bool.eq_iff_iff]
  simp only [checksumOkA, List.all_eq_true, List.mem_range]
  refine forall₂_congr fun i hi => ?_
  rw [frame_eq_of_sameFrame h (11 + i) (by omega) (by omega), frame_eq_of_sameFrame h (5 + i) (by omega) (by omega)]

theorem structureChecksB_congr (p : Params) (hlen : s.frameLen = t.frameLen) (h : sameFrame s t 0 18) :
    structureChecksB p s = structureChecksB p t := by
  have hf := frame_eq_of_sameFrame h
  simp [structureChecksB, hlen, hf]

theorem fieldsB_congr (p : Params) (h : sameFrame s t 0 18) : fieldsB p s = fieldsB p t := by
  have hf := frame_eq_of_sameFrame h
  simp [fieldsB, hf]

theorem summedBytes_congr (h : sameFrame s t 0 17) : summedBytes s = summedBytes t :=
  List.map_congr_left fun i hi => frame_eq_of_sameFrame h i (Nat.zero_le i) (List.mem_range.1 hi)

theorem checksumOkB_congr (h : sameFrame s t 0 18) : checksumOkB s = checksumOkB t := by
  rw [checksumOkB, checksumOkB, frame_eq_of_sameFrame h 17 (by omega) (by omega),
    summedBytes_congr (sameFrame_mono h le_rfl (by omega))]

/-! ### The tests and the effect of an operation read its operands only -/

/-- Storing the CTRL byte changes no operand. -/
theorem sameOperands_setCtrl (i : Instr) (c : Byte) (h : sameOperands i s t) :
    sameOperands i (s.setCtrl c) (t.setCtrl c) := by
  cases i <;> exact h

theorem checksOf_congr (i : Instr) (h : sameOperands i s t) : checksOf i s = checksOf i t := by
  cases i
  case tobin =>
    obtain ⟨hwidth, hoffset, hlo, hhi⟩ := h
    simp only [checksOf, tobinChecks, hwidth, hoffset, tbValue_congr hlo hhi]
  case parse =>
    obtain ⟨hlen, hsym⟩ := h
    simp only [checksOf, parseChecks, ← hlen]
    congr 1
    refine List.map_congr_left fun j hj => failIf_congr _ ?_
    rw [show s.sym j = t.sym j from hsym j (List.mem_range.1 hj)]
  case rev => simp only [checksOf, revChecks, h.1]
  case enca | encaRaw => exact encaChecks_congr _ h
  case deca => exact structureChecksA_congr _ h.1 h.2
  case csumaGen | csumaChk => simp only [checksOf, lengthChecksA, h.1]
  case encb | encbRaw => exact encbChecks_congr _ h
  case decb => exact structureChecksB_congr _ h.1 h.2
  case csumbGen | csumbChk => simp only [checksOf, lengthChecksB, h.1]

theorem sameResults_tobin (h : sameOperands .tobin s t) : sameResults .tobin (tobinEffect s) (tobinEffect t) := by
  obtain ⟨hwidth, hoffset, hlo, hhi⟩ := h
  refine ⟨by simp only [tobinEffect, State.setSymLen_symLen, hwidth, hoffset], fun j h1 h2 => ?_⟩
  have hj : symBase + s.tbOffset.toNat ≤ 0x60 + j ∧
      0x60 + j < symBase + s.tbOffset.toNat + (digits s.tbWidth.toNat (tbValue s)).length := by
    change s.tbOffset.toNat ≤ j at h1
    change j < s.tbOffset.toNat + s.tbWidth.toNat at h2
    simp only [symBase, digits, List.length_map, List.length_range]
    omega
  rw [tobinEffect_mem, tobinEffect_mem, ← hwidth, ← hoffset, ← tbValue_congr hlo hhi, Memory.read_writeBytes,
    Memory.read_writeBytes, if_pos hj, if_pos hj]

theorem sameResults_parse (h : sameOperands .parse s t) : sameResults .parse (parseEffect s) (parseEffect t) := by
  obtain ⟨hlen, hsym⟩ := h
  have hbytes : (List.range 18).map (packedByte s s.symLen.toNat) =
      (List.range 18).map (packedByte t t.symLen.toNat) :=
    hlen ▸ List.map_congr_left fun i _ => packedByte_congr _ i hsym
  exact ⟨hlen, sameFrame_writeFrame s t 0 hbytes⟩

theorem sameResults_rev (h : sameOperands .rev s t) : sameResults .rev (revEffect s) (revEffect t) := by
  obtain ⟨hlen, hframe⟩ := h
  have hbytes : (List.range (s.frameLen.toNat / 8)).map (fun i => rev8 (s.frame i)) =
      (List.range (t.frameLen.toNat / 8)).map fun i => rev8 (t.frame i) :=
    hlen ▸ List.map_congr_left fun i hi =>
      congrArg rev8 (frame_eq_of_sameFrame hframe i (Nat.zero_le i) (List.mem_range.1 hi))
  have hwritten := sameFrame_writeFrame s t 0 hbytes
  rw [List.length_map, List.length_range, Nat.zero_add] at hwritten
  exact hwritten

/-- What both forms of ENCA write; the order of the bits depends on the byte in CTRL. -/
theorem sameResults_enca (p : Params) (hctrl : s.ctrl = t.ctrl) (h : sameCommandA s t) :
    sameResults .enca (encaEffect p s) (encaEffect p t) := by
  have hbytes : transportOrder s.ctrl (assembleA p s) ++ [0x00] = transportOrder t.ctrl (assembleA p t) ++ [0x00] := by
    rw [hctrl, assembleA_congr p h]
  have hwritten := sameFrame_writeFrame s t 0 hbytes
  rw [List.length_append, length_transportOrder, length_assembleA] at hwritten
  exact ⟨rfl, hwritten⟩

/-- What both forms of ENCB write; the order of the bits depends on the byte in CTRL. -/
theorem sameResults_encb (p : Params) (hctrl : s.ctrl = t.ctrl) (h : sameCommandB s t) :
    sameResults .encb (encbEffect p s) (encbEffect p t) := by
  have hbytes : transportOrder s.ctrl (assembleB p s) = transportOrder t.ctrl (assembleB p t) := by
    rw [hctrl, assembleB_congr p h]
  have hwritten := sameFrame_writeFrame s t 0 hbytes
  rw [length_transportOrder, length_assembleB] at hwritten
  exact ⟨rfl, hwritten⟩

theorem sameResults_deca (h : sameFrame s t 0 17) : sameResults .deca (decaEffect s) (decaEffect t) := by
  refine ⟨fieldsA_congr h, congrArg verdict (checksumOkA_congr (sameFrame_mono h (by omega) le_rfl)), ?_⟩
  exact (statusValid_setValid true s.status).trans (statusValid_setValid true t.status).symm

theorem sameResults_decb (p : Params) (h : sameFrame s t 0 18) :
    sameResults .decb (decbEffect p s) (decbEffect p t) := by
  refine ⟨fieldsB_congr p h, congrArg verdict (checksumOkB_congr h), ?_⟩
  exact (statusValid_setValid true s.status).trans (statusValid_setValid true t.status).symm

theorem sameResults_csumaGen (h : sameFrame s t 5 11) :
    sameResults .csumaGen (csumaGenEffect s) (csumaGenEffect t) := by
  have hbytes : (List.range 6).map (fun i => (0xFF : Byte) ^^^ s.frame (5 + i)) =
      (List.range 6).map fun i => (0xFF : Byte) ^^^ t.frame (5 + i) :=
    List.map_congr_left fun i hi => by
      have hi' := List.mem_range.1 hi
      rw [frame_eq_of_sameFrame h (5 + i) (by omega) (by omega)]
  exact sameFrame_writeFrame s t 11 hbytes

/-- What an operation whose tests passed leaves where its rule says "Written" depends on its operands, and on the CTRL
byte, which is the operation's own. -/
theorem sameResults_effectOf (i : Instr) (h : sameOperands i s t) (hctrl : s.ctrl = t.ctrl) :
    sameResults i (effectOf i s) (effectOf i t) := by
  cases i
  case tobin => exact sameResults_tobin h
  case parse => exact sameResults_parse h
  case rev => exact sameResults_rev h
  case enca | encaRaw => exact sameResults_enca _ hctrl h
  case deca => exact sameResults_deca h.2
  case csumaGen => exact sameResults_csumaGen h.2
  case csumaChk => exact congrArg verdict (checksumOkA_congr h.2)
  case encb | encbRaw => exact sameResults_encb _ hctrl h
  case decb => exact sameResults_decb _ h.2
  case csumbGen => exact sameFrame_writeFrame s t 17 (congrArg (fun bs => [csumB bs]) (summedBytes_congr h.2))
  case csumbChk => exact congrArg verdict (checksumOkB_congr h.2)

/-! ### The two commits -/

theorem statusValid_commitSuccess (s : State) : statusValid (commitSuccess s).status = statusValid s.status :=
  statusValid_finish 0 s.status

/-- The success commit keeps the results: VALID is carried over and nothing else of them is touched (R102). -/
theorem sameResults_commitSuccess (i : Instr) (h : sameResults i s t) :
    sameResults i (commitSuccess s) (commitSuccess t) := by
  cases i
  case deca | decb =>
    obtain ⟨hfields, hcheck, hvalid⟩ := h
    exact ⟨hfields, hcheck, (statusValid_commitSuccess s).trans (hvalid.trans (statusValid_commitSuccess t).symm)⟩
  all_goals exact h

/-- The report of a success: VALID and OUT_CHECK, where the operation writes them, are among its results. -/
theorem sameReport_of_sameResults (i : Instr) (h : sameResults i (commitSuccess s) (commitSuccess t)) :
    sameReport i (commitSuccess s) (commitSuccess t) := by
  refine ⟨rfl, (statusErr_finish 0 s.status).trans (statusErr_finish 0 t.status).symm,
    (statusDone_finish 0 s.status).trans (statusDone_finish 0 t.status).symm, ?_, ?_⟩
  · rintro (rfl | rfl)
    · exact h.2.2
    · exact h.2.2
  · rintro (rfl | rfl | rfl | rfl)
    · exact h.2.1
    · exact h.2.1
    · exact h
    · exact h

theorem statusErr_commitError (i : Instr) (e : OpError) (s : State) :
    statusErr (commitError (some i) e s).status = e.code := by
  rw [commitError_shape]
  dsimp only
  split
  · rw [statusErr_setValid, statusErr_finish]
  · rw [statusErr_finish]

theorem statusDone_commitError (i : Instr) (e : OpError) (s : State) :
    statusDone (commitError (some i) e s).status = true := by
  rw [commitError_shape]
  dsimp only
  split
  · rw [statusDone_setValid, statusDone_finish]
  · rw [statusDone_finish]

theorem statusValid_commitError (i : Instr) (e : OpError) (s : State) (h : i = .deca ∨ i = .decb) :
    statusValid (commitError (some i) e s).status = false := by
  rw [commitError_shape]
  dsimp only
  rw [if_pos h, statusValid_setValid]

/-- The report of an error depends on the operation and the error alone (R103). -/
theorem sameReport_commitError (i : Instr) (e : OpError) (s t : State) :
    sameReport i (commitError (some i) e s) (commitError (some i) e t) := by
  refine ⟨?_, (statusErr_commitError i e s).trans (statusErr_commitError i e t).symm,
    (statusDone_commitError i e s).trans (statusDone_commitError i e t).symm,
    fun hi => (statusValid_commitError i e s hi).trans (statusValid_commitError i e t hi).symm, fun hi => ?_⟩
  · rw [commitError_shape, commitError_shape]
  · simp only [commitError_shape, if_pos hi]

end Agreement

/-! ### The operations -/

/-- Settles O37: the two runs pass or fail the same tests, so they make the same commit, a success after effects that
agree on the results, or one and the same error. -/
theorem operationsReadOnlyTheirOperands : Obligations.OperationsReadOnlyTheirOperands := by
  intro i s₁ s₂ h
  have hops := sameOperands_setCtrl i (encode i) h
  have hchecks := checksOf_congr i hops
  rw [exec_eq_perform i s₂]
  rcases exec_cases i s₁ with ⟨hpass, hrun⟩ | ⟨e, hfail, hrun⟩
  · have hresults := sameResults_commitSuccess i (sameResults_effectOf i hops rfl)
    exact ⟨_, _, hrun, perform_ok i _ _ s₂ (hchecks ▸ hpass),
      sameReport_of_sameResults i hresults, fun _ => hresults⟩
  · refine ⟨_, _, hrun, perform_error i _ _ s₂ e (hchecks ▸ hfail),
      sameReport_commitError i e _ _, fun hnone => ?_⟩
    exact absurd ((statusErr_commitError i e _).symm.trans hnone) e.code_ne_zero

end Sys2Proof.Scope
end

section
/-! PROOFS. The statements of spec/10_state.md: what a reset clears, which registers and buffers an operation may write,
and the invariants of FRAME, SYM, STATUS and the decoded outputs. Every invariant is derived from `step_cases`, which
says once all that a step can do. -/

namespace Sys2Proof.StateFile

open Sys2Proof.Machine Sys2Proof.Claim

/-! ### A CTRL write -/

theorem encode_of_decode : ∀ b : Byte, ∀ i ∈ (decode b).toOption, encode i = b := by decide

theorem ctrlWrite_of_decode {v : Byte} {i : Instr} (s : State) (h : decode v = .ok i) : ctrlWrite v s = exec i s := by
  rw [ctrlWrite, h]

/-- All that a CTRL write can do, legal or not: an operation's success commit, or an error commit, on the state with
CTRL stored (R37, R102, R103). -/
theorem ctrlWrite_commits (v : Byte) (s : State) :
    (∃ i, encode i = v ∧ firstFailure (checksOf i (s.setCtrl v)) = none ∧
      ctrlWrite v s = .next (commitSuccess (effectOf i (s.setCtrl v)))) ∨
    ∃ op e, (∀ i ∈ op, encode i = v) ∧ ctrlWrite v s = .next (commitError op e (s.setCtrl v)) := by
  rcases ctrlWrite_cases v s with ⟨i, hdec, hrun⟩ | ⟨-, hrun⟩
  · have hv : encode i = v := encode_of_decode v i (by simp [hdec, Except.toOption])
    rw [hrun, ← hv]
    rcases exec_cases i s with ⟨hpass, hexec⟩ | ⟨e, -, hexec⟩
    · exact .inl ⟨i, rfl, hpass, hexec⟩
    · exact .inr ⟨some i, e, fun j hj => Option.mem_some_iff.1 hj ▸ rfl, hexec⟩
  · exact .inr ⟨none, .illegalOp v, by simp, hrun⟩

/-- The error commit of an operation or of an illegal CTRL byte writes STATUS, ERRINFO and OUT_CHECK at most (R103). -/
theorem commitError_eq (op : Option Instr) (e : OpError) (s : State) :
    commitError op e s = { s with
      status :=
        if clearsValid op then statusSetValid false (statusFinish e.code s.status) else statusFinish e.code s.status
      errInfo := e.info
      outCheck := if clearsCheck op then 0 else s.outCheck } := by
  unfold commitError
  cases clearsValid op <;> cases clearsCheck op <;> rfl

/-! ### A host write -/

/-- All that a host write stores (R37). -/
theorem storeByte_cases (a v : Byte) (s : State) :
    storeByte a v s = s ∨ (∃ r, storeByte a v s = writeReg r v s) ∨
      (isBuffer a.toNat = true ∧ storeByte a v s = s.setMem (s.mem.writeBytes a.toNat [v])) := by
  unfold storeByte
  split
  next r _ => exact .inr (.inl ⟨r, rfl⟩)
  next hloc =>
    refine .inr (.inr ⟨?_, rfl⟩)
    unfold locate at hloc
    split at hloc
    · cases hloc
    · by_contra hnot
      simp [hnot] at hloc
  next => exact .inl rfl

theorem writeReg_mem (r : Reg) (v : Byte) (s : State) : (writeReg r v s).mem = s.mem := by
  cases r <;> rfl

/-- The registers the host cannot write: STATUS, ERRINFO and the decoded outputs. -/
def readOnlyRegs (s : State) : Byte × Byte × Decoded × Byte := (s.status, s.errInfo, s.decoded, s.outCheck)

theorem readOnlyRegs_writeReg (r : Reg) (v : Byte) (s : State) : readOnlyRegs (writeReg r v s) = readOnlyRegs s := by
  cases r <;> rfl

/-- A host write changes no read-only register (R31, R37). -/
theorem readOnlyRegs_storeByte (a v : Byte) (s : State) : readOnlyRegs (storeByte a v s) = readOnlyRegs s := by
  rcases storeByte_cases a v s with h | ⟨r, h⟩ | ⟨-, h⟩
  · rw [h]
  · rw [h, readOnlyRegs_writeReg]
  · rw [h]; rfl

theorem readOnlyRegs_eq_iff (s t : State) :
    readOnlyRegs t = readOnlyRegs s ↔
      t.status = s.status ∧ t.errInfo = s.errInfo ∧ t.decoded = s.decoded ∧ t.outCheck = s.outCheck := by
  simp [readOnlyRegs]

/-! ### A step -/

theorem hostEvent_wr_released {s : State} (a v : Byte) (h : s.host.resetLine = false) :
    hostEvent (.wr a v) s = memWrite a v s := by
  simp [hostEvent, h]

/-- An event while the reset input is released: a read and a release leave the block alone, an assertion resets it. -/
theorem hostEvent_released {e : HostEvent} {s t : State} (hline : s.host.resetLine = false)
    (h : hostEvent e s = .next t) :
    (∃ r : HostSide, r.resetLine = false ∧ t = s.setHost r) ∨ (∃ a v, memWrite a v s = .next t) ∨
      ∃ r : HostSide, r.resetLine = true ∧ t = State.reset.setHost r := by
  cases e
  case wr a v => exact .inr (.inl ⟨a, v, (hostEvent_wr_released a v hline).symm.trans h⟩)
  case rd | expect =>
    simp only [hostEvent, hline] at h
    cases h
    refine .inl ⟨_, ?_, rfl⟩
    exact hline
  case resetInput level =>
    cases level
    · simp only [hostEvent, hline] at h
      cases h
      exact .inl ⟨_, rfl, rfl⟩
    · cases h
      exact .inr (.inr ⟨_, rfl, rfl⟩)

/-- An event while the reset input is asserted, its release included (R114, R115). -/
theorem hostEvent_asserted {e : HostEvent} {s t : State} (hline : s.host.resetLine = true)
    (h : hostEvent e s = .next t) : ∃ r : HostSide, t = State.reset.setHost r := by
  cases e
  all_goals
    simp only [hostEvent, hline, if_true, Bool.or_true] at h
    cases h
    exact ⟨_, rfl⟩

/-- All that a step can do. With the reset input released before and after it, the step leaves the block alone (a read,
the release, no access pending) or makes one host write; with the input asserted before it or by it, the block is in the
reset state. The host's own record `r` goes on in either case. -/
theorem step_cases {s t : State} (h : step s = .next t) :
    ∃ r : HostSide,
      (s.host.resetLine = false ∧ r.resetLine = false ∧
        (t = s.setHost r ∨ ∃ a v, memWrite a v (s.setHost r) = .next t)) ∨
      ((s.host.resetLine = true ∨ r.resetLine = true) ∧ t = State.reset.setHost r) := by
  rcases hp : s.host.pending with _ | ⟨e, es⟩
  · rw [step_idle s hp] at h
    cases h
    cases hline : s.host.resetLine
    · exact ⟨s.host, .inl ⟨rfl, hline, .inl (idle_released s hline)⟩⟩
    · exact ⟨s.host, .inr ⟨.inl rfl, by simp [idle, hline, resetBlock_eq]⟩⟩
  · rw [step_event s e es hp] at h
    cases hline : s.host.resetLine
    · rcases hostEvent_released (s := s.setPending es) hline h with ⟨r, hr, rfl⟩ | ⟨a, v, hwrite⟩ | ⟨r, hr, rfl⟩
      · exact ⟨r, .inl ⟨rfl, hr, .inl rfl⟩⟩
      · exact ⟨(s.setPending es).host, .inl ⟨rfl, hline, .inr ⟨a, v, hwrite⟩⟩⟩
      · exact ⟨r, .inr ⟨.inr hr, rfl⟩⟩
    · obtain ⟨r, rfl⟩ := hostEvent_asserted (s := s.setPending es) hline h
      exact ⟨r, .inr ⟨.inl rfl, rfl⟩⟩

/-- What a predicate needs for every step to keep it: it does not speak of the host's record, holds at reset, and is
kept by a host write's store, by storing CTRL and by the two commits. -/
structure KeptByCommits (P : State → Prop) : Prop where
  host : ∀ s r, P s → P (s.setHost r)
  reset : P State.reset
  store : ∀ s a v, P s → P (storeByte a v s)
  ctrl : ∀ s c, P s → P (s.setCtrl c)
  success : ∀ i s, P s → firstFailure (checksOf i s) = none → P (commitSuccess (effectOf i s))
  error : ∀ op e s, P s → P (commitError op e s)

theorem KeptByCommits.memWrite {P : State → Prop} (hP : KeptByCommits P) {a v : Byte} {s t : State} (hs : P s)
    (h : memWrite a v s = .next t) : P t := by
  by_cases ha : a = 0x00
  · rw [ha, memWrite_ctrl] at h
    rcases ctrlWrite_commits v s with ⟨i, -, hpass, hrun⟩ | ⟨op, e, -, hrun⟩
    · cases hrun.symm.trans h
      exact hP.success i _ (hP.ctrl s v hs) hpass
    · cases hrun.symm.trans h
      exact hP.error op e _ (hP.ctrl s v hs)
  · cases (memWrite_other a v s ha).symm.trans h
    exact hP.store s a v hs

theorem KeptByCommits.step {P : State → Prop} (hP : KeptByCommits P) {s t : State} (hs : P s)
    (h : Machine.step s = .next t) : P t := by
  obtain ⟨r, ⟨-, -, rfl | ⟨a, v, hwrite⟩⟩ | ⟨-, rfl⟩⟩ := step_cases h
  · exact hP.host s r hs
  · exact hP.memWrite (hP.host s r hs) hwrite
  · exact hP.host _ r hP.reset

/-! ### FRAME and SYM -/

theorem memoryOk_of_mem_eq {s t : State} (h : t.mem = s.mem) (hs : MemoryOk s) : MemoryOk t := by
  unfold MemoryOk
  rwa [h]

/-- A write of consecutive bytes within FRAME and SYM keeps the canonical form. -/
theorem memoryOk_of_writeBytes {s t : State} {a : Nat} {vs : List Byte} (h : t.mem = s.mem.writeBytes a vs)
    (hrange : ∀ b, a ≤ b → b < a + vs.length → isBuffer b = true) (hs : MemoryOk s) : MemoryOk t := by
  obtain ⟨hwf, hkeys⟩ := hs
  unfold MemoryOk
  rw [h]
  refine ⟨Memory.wf_writeBytes _ a vs hwf, fun c hc => ?_⟩
  rcases Memory.key_writeBytes _ a vs c hc with ⟨hlo, hhi⟩ | hold
  · exact hrange c.1 hlo hhi
  · exact hkeys c hold

theorem isBuffer_iff (b : Nat) : isBuffer b = true ↔ (0x40 ≤ b ∧ b < 0x52) ∨ (0x60 ≤ b ∧ b < 0xF0) := by
  simp only [isBuffer, Bool.or_eq_true, Bool.and_eq_true, decide_eq_true_eq]
  omega

theorem memoryOk_storeByte (s : State) (a v : Byte) (hs : MemoryOk s) : MemoryOk (storeByte a v s) := by
  rcases storeByte_cases a v s with h | ⟨r, h⟩ | ⟨hbuf, h⟩
  · rwa [h]
  · exact memoryOk_of_mem_eq (h ▸ writeReg_mem r v s) hs
  · refine memoryOk_of_writeBytes (congrArg State.mem h) (fun b hlo hhi => ?_) hs
    have hb : b = a.toNat := by simp only [List.length_singleton] at hhi; omega
    exact hb ▸ hbuf

/-- TOBIN's tests keep it within SYM, every other operation writes within FRAME (R26, R27). -/
theorem memoryOk_commitSuccess (i : Instr) (s : State) (hs : MemoryOk s) (hpass : firstFailure (checksOf i s) = none) :
    MemoryOk (commitSuccess (effectOf i s)) := by
  obtain ⟨a, vs, hmem, hrange⟩ := effectOf_mem i s hpass
  refine memoryOk_of_writeBytes hmem (fun b hlo hhi => ?_) hs
  split at hrange
  · exact (isBuffer_iff b).2 (.inr ⟨hrange.1.trans hlo, hhi.trans_le hrange.2⟩)
  · exact (isBuffer_iff b).2 (.inl ⟨hrange.1.trans hlo, hhi.trans_le hrange.2⟩)

theorem memoryOk_reset : MemoryOk State.reset := ⟨rfl, by simp [State.reset]⟩

theorem memoryOk_kept : KeptByCommits MemoryOk where
  host _ _ hs := hs
  reset := memoryOk_reset
  store := memoryOk_storeByte
  ctrl _ _ hs := hs
  success := memoryOk_commitSuccess
  error op e s hs := memoryOk_of_mem_eq (congrArg State.mem (commitError_eq op e s)) hs

/-- Settles O39: memory changes only by writes of consecutive bytes within FRAME or within SYM. -/
theorem stepKeepsMemoryCanonical : Obligations.StepKeepsMemoryCanonical :=
  fun _ _ hs h => memoryOk_kept.step hs h

/-! ### STATUS and ERRINFO -/

/-- A commit sets DONE, so what `StatusOk` asks of a state before the first operation is void after it (R102, R103). -/
theorem statusOk_of_commit {t : State} (hres : statusRes t.status = 0) (herr : (statusErr t.status).toNat ≤ 4)
    (hinfo : statusErr t.status = 0 → t.errInfo = 0) (hdone : statusDone t.status = true) : StatusOk t :=
  ⟨hres, herr, hinfo, fun h => absurd (hdone.symm.trans h) (by decide)⟩

theorem statusOk_of_eq {s t : State} (hstatus : t.status = s.status) (hinfo : t.errInfo = s.errInfo)
    (hs : StatusOk s) : StatusOk t := by
  unfold StatusOk
  rwa [hstatus, hinfo]

theorem statusRes_effectOf (i : Instr) (s : State) : statusRes (effectOf i s).status = statusRes s.status := by
  by_cases hi : i = .deca ∨ i = .decb
  · rw [effectOf_status_decode i s hi, statusRes_setValid]
  · rw [not_or] at hi
    rw [effectOf_status i s hi.1 hi.2]

theorem statusOk_commitSuccess (i : Instr) (s : State) (hs : StatusOk s) : StatusOk (commitSuccess (effectOf i s)) := by
  obtain ⟨hres, -, -, -⟩ := hs
  rw [commitSuccess_eq]
  refine statusOk_of_commit ?_ ?_ (fun _ => rfl) (statusDone_finish 0 _)
  · exact (statusRes_finish 0 _).trans ((statusRes_effectOf i s).trans hres)
  · rw [statusErr_finish]
    decide

theorem code_le_four (e : OpError) : e.code.toNat ≤ 4 := by
  cases e <;> simp [OpError.code]

/-- STATUS after an error commit, VALID apart (R103). -/
theorem status_commitError (op : Option Instr) (e : OpError) (s : State) :
    statusRes (commitError op e s).status = statusRes s.status ∧ statusErr (commitError op e s).status = e.code ∧
      statusDone (commitError op e s).status = true := by
  rw [commitError_eq]
  dsimp only
  split
  · rw [statusRes_setValid, statusErr_setValid, statusDone_setValid]
    exact ⟨statusRes_finish _ _, statusErr_finish _ _, statusDone_finish _ _⟩
  · exact ⟨statusRes_finish _ _, statusErr_finish _ _, statusDone_finish _ _⟩

theorem statusOk_commitError (op : Option Instr) (e : OpError) (s : State) (hs : StatusOk s) :
    StatusOk (commitError op e s) := by
  obtain ⟨hres, -, -, -⟩ := hs
  obtain ⟨hres', herr, hdone⟩ := status_commitError op e s
  exact statusOk_of_commit (hres'.trans hres) (herr ▸ code_le_four e)
    (fun h0 => absurd (herr.symm.trans h0) e.code_ne_zero) hdone

theorem statusOk_storeByte (s : State) (a v : Byte) (hs : StatusOk s) : StatusOk (storeByte a v s) := by
  obtain ⟨hstatus, hinfo, -, -⟩ := (readOnlyRegs_eq_iff _ _).1 (readOnlyRegs_storeByte a v s)
  exact statusOk_of_eq hstatus hinfo hs

theorem statusOk_reset : StatusOk State.reset := by
  unfold StatusOk
  decide

theorem statusOk_kept : KeptByCommits StatusOk where
  host _ _ hs := hs
  reset := statusOk_reset
  store := statusOk_storeByte
  ctrl _ _ hs := hs
  success i s hs _ := statusOk_commitSuccess i s hs
  error := statusOk_commitError

/-- Settles O40: STATUS and ERRINFO change by the two commits only, and each leaves a legal value. -/
theorem stepKeepsStatusLegal : Obligations.StepKeepsStatusLegal :=
  fun _ _ hs h => statusOk_kept.step hs h

/-! ### The decoded outputs -/

/-- A mode table holds the codes of the five tokens, so a code found there has a token (R55, R59). -/
theorem tokenOf_le_four {table : List Byte} {code : Byte} (hlen : table.length = 5) (hcode : code ∈ table) :
    (tokenOf table code).toNat ≤ 4 := by
  have hidx : table.idxOf code < 5 := hlen ▸ List.idxOf_lt_length_iff.2 hcode
  rw [tokenOf, BitVec.toNat_ofNat]
  omega

theorem toNat_ite_one_zero_le (p : Prop) [Decidable p] : (if p then 1 else 0 : Byte).toNat ≤ 1 := by
  split <;> decide

theorem slice_toNat_lt (b : Byte) (hi lo : Nat) : (slice b hi lo).toNat < 2 ^ (hi - lo + 1) := by
  rw [slice, BitVec.toNat_setWidth]
  exact (Nat.mod_le _ _).trans_lt (BitVec.isLt _)

theorem temp_range {code : Byte} (h : code.toNat < 16) : 16 ≤ (16 + code).toNat ∧ (16 + code).toNat ≤ 31 := by
  bv_omega

theorem fanA_range {code : Byte} (h : code.toNat < 4) : 1 ≤ (code + 1).toNat ∧ (code + 1).toNat ≤ 4 := by
  bv_omega

theorem fanB_le_five {code : Byte} (hlt : code.toNat < 8) (h : code ∉ ([0b110, 0b111] : List Byte)) :
    code.toNat ≤ 5 := by
  revert code
  decide

theorem vaneTokenA_range {code : Byte} (h : code ∈ ([0, 1, 2, 3, 12] : List Byte)) :
    (vaneTokenA code).toNat ≤ 3 ∨ vaneTokenA code = 6 := by
  revert code
  decide

theorem vaneTokenB_range {code : Byte} (h : code.toNat < 8) :
    1 ≤ (vaneTokenB code).toNat ∧ (vaneTokenB code).toNat ≤ 7 := by
  revert code
  decide

theorem verdict_le_two (ok : Bool) : (verdict ok).toNat ≤ 2 := by cases ok <;> decide

/-- The codes that DECA's structural check lets through (R78). -/
theorem codes_of_structureChecksA {p : Params} {s : State} (h : firstFailure (structureChecksA p s) = none) :
    slice (s.frame 6) 3 0 ∈ modeTableA ∧ slice (s.frame 7) 7 4 ∈ ([0, 1, 2, 3, 12] : List Byte) := by
  simp only [firstFailure_eq_none_iff, structureChecksA, List.forall_mem_cons, failIf, decide_eq_false_iff_not,
    not_not] at h
  obtain ⟨-, -, -, -, -, -, -, hmode, hvane, -⟩ := h
  exact ⟨hmode, hvane⟩

/-- The codes that DECB's structural check lets through (R91). -/
theorem codes_of_structureChecksB {p : Params} {s : State} (h : firstFailure (structureChecksB p s) = none) :
    slice (s.frame 6) 5 3 ∈ modeTableB6 ∧ slice (s.frame 9) 2 0 ∉ ([0b110, 0b111] : List Byte) := by
  simp only [firstFailure_eq_none_iff, structureChecksB, List.forall_mem_cons, failIf, decide_eq_false_iff_not,
    not_not] at h
  obtain ⟨-, -, -, -, -, -, -, -, -, -, hmode, -, hfan, -⟩ := h
  exact ⟨hmode, hfan⟩

/-- The two columns of R24 speak of the decoded registers only. -/
theorem outputsA_of_decoded_eq {s t : State} (h : t.decoded = s.decoded) (hs : OutputsA s) : OutputsA t := by
  change OutputsA (State.reset.setDecoded t.decoded)
  rw [h]
  exact hs

theorem outputsB_of_decoded_eq {s t : State} (h : t.decoded = s.decoded) (hs : OutputsB s) : OutputsB t := by
  change OutputsB (State.reset.setDecoded t.decoded)
  rw [h]
  exact hs

/-- A variant A frame that passed the structural check decodes into the column DECA of R24. -/
theorem outputsA_decaEffect {p : Params} {s : State} (h : firstFailure (structureChecksA p s) = none) :
    OutputsA (decaEffect s) := by
  obtain ⟨hmode, hvane⟩ := codes_of_structureChecksA h
  obtain ⟨htempLo, htempHi⟩ := temp_range (slice_toNat_lt (s.frame 6) 7 4)
  obtain ⟨hfanLo, hfanHi⟩ := fanA_range (slice_toNat_lt (s.frame 7) 2 1)
  exact ⟨toNat_ite_one_zero_le _, tokenOf_le_four rfl hmode, htempLo, htempHi, hfanLo, hfanHi, vaneTokenA_range hvane,
    rfl, rfl, Nat.le_of_lt_succ (slice_toNat_lt (s.frame 8) 1 0)⟩

/-- A variant B frame that passed the structural check decodes into the column DECB of R24. -/
theorem outputsB_decbEffect {p : Params} {s : State} (h : firstFailure (structureChecksB p s) = none) :
    OutputsB (decbEffect p s) := by
  obtain ⟨hmode, hfan⟩ := codes_of_structureChecksB h
  obtain ⟨htempLo, htempHi⟩ := temp_range (slice_toNat_lt (s.frame 7) 3 0)
  obtain ⟨hvaneLo, hvaneHi⟩ := vaneTokenB_range (slice_toNat_lt (s.frame 9) 5 3)
  exact ⟨toNat_ite_one_zero_le _, tokenOf_le_four rfl hmode, htempLo, htempHi,
    fanB_le_five (slice_toNat_lt _ 2 0) hfan, hvaneLo, hvaneHi, Nat.le_of_lt_succ (slice_toNat_lt (s.frame 6) 6 6),
    toNat_ite_one_zero_le _, rfl, rfl, rfl⟩

/-- What keeps the outputs legal where no decode is made: the decoded registers stay and VALID is not set. -/
theorem outputsOk_of_decoded_eq {s t : State} (hdecoded : t.decoded = s.decoded)
    (hvalid : statusValid s.status = false → statusValid t.status = false) (hcheck : t.outCheck.toNat ≤ 2)
    (hs : OutputsOk s) : OutputsOk t := by
  obtain ⟨hout, -⟩ := hs
  have hvariant : t.outVariant = s.outVariant := congrArg Decoded.variant hdecoded
  refine ⟨?_, hcheck⟩
  rw [hvariant, hdecoded]
  rcases hout with ⟨h0, hreset, hv⟩ | ⟨h1, hA⟩ | ⟨h2, hB⟩
  · exact .inl ⟨h0, hreset, hvalid hv⟩
  · exact .inr (.inl ⟨h1, outputsA_of_decoded_eq hdecoded hA⟩)
  · exact .inr (.inr ⟨h2, outputsB_of_decoded_eq hdecoded hB⟩)

/-- The operations that write OUT_CHECK write a verdict there (R25). -/
theorem effectOf_outCheck_verdict (i : Instr) (s : State)
    (h : i = .deca ∨ i = .decb ∨ i = .csumaChk ∨ i = .csumbChk) : ∃ ok, (effectOf i s).outCheck = verdict ok := by
  rcases h with rfl | rfl | rfl | rfl <;> exact ⟨_, rfl⟩

theorem effectOf_outCheck_le_two (i : Instr) (s : State) (hs : s.outCheck.toNat ≤ 2) :
    (effectOf i s).outCheck.toNat ≤ 2 := by
  by_cases hi : i = .deca ∨ i = .decb ∨ i = .csumaChk ∨ i = .csumbChk
  · obtain ⟨ok, hok⟩ := effectOf_outCheck_verdict i s hi
    exact hok ▸ verdict_le_two ok
  · simp only [not_or] at hi
    obtain ⟨h1, h2, h3, h4⟩ := hi
    rwa [effectOf_outCheck i s h1 h2 h3 h4]

/-- A decode whose tests passed delivers a whole command, every other operation leaves the outputs (R24). -/
theorem outputsOk_commitSuccess (i : Instr) (s : State) (hs : OutputsOk s)
    (hpass : firstFailure (checksOf i s) = none) : OutputsOk (commitSuccess (effectOf i s)) := by
  have hcheck : (commitSuccess (effectOf i s)).outCheck.toNat ≤ 2 := effectOf_outCheck_le_two i s hs.2
  by_cases hdecode : i = .deca ∨ i = .decb
  · rcases hdecode with rfl | rfl
    · exact ⟨.inr (.inl ⟨rfl, outputsA_of_decoded_eq rfl (outputsA_decaEffect (p := Config.params) hpass)⟩), hcheck⟩
    · exact ⟨.inr (.inr ⟨rfl, outputsB_of_decoded_eq rfl (outputsB_decbEffect (p := Config.params) hpass)⟩), hcheck⟩
  · rw [not_or] at hdecode
    refine outputsOk_of_decoded_eq (effectOf_decoded i s hdecode.1 hdecode.2) (fun hv => ?_) hcheck hs
    rw [Scope.statusValid_commitSuccess, effectOf_status i s hdecode.1 hdecode.2, hv]

theorem outputsOk_commitError (op : Option Instr) (e : OpError) (s : State) (hs : OutputsOk s) :
    OutputsOk (commitError op e s) := by
  have hcheck := hs.2
  rw [commitError_eq]
  refine outputsOk_of_decoded_eq (s := s) rfl (fun hv => ?_) ?_ hs
  · dsimp only
    split
    · rw [statusValid_setValid]
    · rw [statusValid_finish, hv]
  · dsimp only
    split
    · decide
    · exact hcheck

theorem outputsOk_storeByte (s : State) (a v : Byte) (hs : OutputsOk s) : OutputsOk (storeByte a v s) := by
  obtain ⟨hstatus, -, hdecoded, hcheck⟩ := (readOnlyRegs_eq_iff _ _).1 (readOnlyRegs_storeByte a v s)
  exact outputsOk_of_decoded_eq hdecoded (hstatus ▸ id) (hcheck ▸ hs.2) hs

theorem outputsOk_reset : OutputsOk State.reset := ⟨.inl ⟨rfl, rfl, rfl⟩, Nat.zero_le 2⟩

theorem outputsOk_kept : KeptByCommits OutputsOk where
  host _ _ hs := hs
  reset := outputsOk_reset
  store := outputsOk_storeByte
  ctrl _ _ hs := hs
  success := outputsOk_commitSuccess
  error := outputsOk_commitError

/-- Settles O41: the outputs change only by a decode whose structural check passed. -/
theorem stepKeepsOutputsLegal : Obligations.StepKeepsOutputsLegal :=
  fun _ _ hs h => outputsOk_kept.step hs h

/-! ### What an operation may write -/

/-- No operation writes a command input register or a TOBIN operand register, with an error or without one (R23). -/
theorem ctrlWrite_keeps_inputs (v : Byte) (s : State) :
    ∃ t : State, ctrlWrite v s = .next t ∧ sameCommandB s t ∧
      s.tbWidth = t.tbWidth ∧ s.tbOffset = t.tbOffset ∧ s.tbValueLo = t.tbValueLo ∧ s.tbValueHi = t.tbValueHi := by
  rcases ctrlWrite_commits v s with ⟨i, -, -, hrun⟩ | ⟨op, e, -, hrun⟩
  · exact ⟨_, hrun, by simp [commitSuccess_eq, sameCommandB, sameCommandA]⟩
  · exact ⟨_, hrun, by simp [commitError_eq, sameCommandB, sameCommandA]⟩

/-- Settles O35: neither commit touches them. -/
theorem blockNeverWritesInputs : Obligations.BlockNeverWritesInputs := by
  intro s v
  rw [memWrite_ctrl]
  exact ctrlWrite_keeps_inputs v s

theorem sameOutside_writeBytes (m : Memory) {a lo hi : Nat} {vs : List Byte} (hlo : lo ≤ a) (hhi : a + vs.length ≤ hi) :
    sameOutside (m.writeBytes a vs) m lo hi := by
  intro b hb
  rw [Memory.read_writeBytes, if_neg (by omega)]

/-- TOBIN writes memory within SYM, every other operation within FRAME, if at all (R26, R27). -/
theorem effectOf_mem_sameOutside {i : Instr} {s : State} (hpass : firstFailure (checksOf i s) = none) :
    if i = .tobin then sameOutside (effectOf i s).mem s.mem 0x60 0xF0
    else sameOutside (effectOf i s).mem s.mem 0x40 0x52 := by
  obtain ⟨a, vs, hmem, hrange⟩ := effectOf_mem i s hpass
  rw [hmem]
  split at hrange
  next hi => exact if_pos hi ▸ sameOutside_writeBytes s.mem hrange.1 hrange.2
  next hi => exact if_neg hi ▸ sameOutside_writeBytes s.mem hrange.1 hrange.2

theorem effectOf_mem_of_decode_or_check (i : Instr) (s : State)
    (h : i = .deca ∨ i = .decb ∨ i = .csumaChk ∨ i = .csumbChk) : (effectOf i s).mem = s.mem := by
  rcases h with rfl | rfl | rfl | rfl <;> rfl

/-- The operations whose rule does not write FRAME (R26): TOBIN, the decodes and the CHK operations. -/
theorem not_frame_writer (i : Instr)
    (h : encode i ∉ ([0x02, 0x03, 0x04, 0x06, 0x08, 0x0A, 0x14, 0x18] : List Byte)) :
    i = .tobin ∨ i = .deca ∨ i = .decb ∨ i = .csumaChk ∨ i = .csumbChk := by
  revert h
  cases i <;> decide

/-- An error clears OUT_CHECK only where the CTRL byte is that of a decode or of a CHK operation (R103). -/
theorem clearsCheck_eq_false {op : Option Instr} {v : Byte} (hop : ∀ i ∈ op, encode i = v)
    (hv : v ∉ ([0x05, 0x07, 0x09, 0x0B] : List Byte)) : clearsCheck op = false := by
  rcases op with _ | i
  · rfl
  · rw [← hop i rfl] at hv
    revert hv
    cases i <;> decide

/-- Settles O36: an error commit leaves all of these but OUT_CHECK, a success commit leaves what the operation's effect
leaves. -/
theorem onlyNamedOperationsWrite : Obligations.OnlyNamedOperationsWrite := by
  intro s v
  rw [memWrite_ctrl]
  rcases ctrlWrite_commits v s with ⟨i, rfl, hpass, hrun⟩ | ⟨op, e, hop, hrun⟩
  · have hne {j : Instr} {bytes : List Byte} (hv : encode i ∉ bytes) (hj : encode j ∈ bytes) : i ≠ j :=
      fun h => hv (h ▸ hj)
    refine ⟨_, hrun, fun hv => ?_, fun hv => ?_, fun hv => ?_, fun hv => ?_, fun hv => ?_⟩
    · exact effectOf_decoded i _ (hne hv (by decide)) (hne hv (by decide))
    · exact effectOf_outCheck i _ (hne hv (by decide)) (hne hv (by decide)) (hne hv (by decide))
        (hne hv (by decide))
    · exact effectOf_frameLen i _ (hne hv (by decide)) (hne hv (by decide)) (hne hv (by decide))
        (hne hv (by decide)) (hne hv (by decide))
    · have hi : i ≠ .tobin := fun h => hv (h ▸ rfl)
      exact ⟨effectOf_symLen i _ hi, (if_neg hi).mp (effectOf_mem_sameOutside hpass)⟩
    · rcases not_frame_writer i hv with rfl | hi
      · exact (if_pos rfl).mp (effectOf_mem_sameOutside hpass)
      · exact fun a _ => congrArg (Memory.read · a) (effectOf_mem_of_decode_or_check i _ hi)
  · rw [commitError_eq] at hrun
    refine ⟨_, hrun, fun _ => rfl, fun hv => ?_, fun _ => rfl, fun _ => ⟨rfl, fun _ _ => rfl⟩, fun _ _ _ => rfl⟩
    rw [clearsCheck_eq_false hop hv]
    rfl

/-! ### The step and the operation it runs -/

theorem step_wr_released {s : State} {a v : Byte} {es : List HostEvent} (hpending : s.host.pending = .wr a v :: es)
    (hline : s.host.resetLine = false) : step s = memWrite a v (s.setPending es) := by
  rw [step_event s _ es hpending, hostEvent_wr_released a v (s := s.setPending es) hline]

theorem step_ctrl_released {s : State} {v : Byte} {es : List HostEvent} {i : Instr}
    (hpending : s.host.pending = .wr 0x00 v :: es) (hline : s.host.resetLine = false) (hdec : decode v = .ok i) :
    step s = exec i (s.setPending es) := by
  rw [step_wr_released hpending hline, memWrite_ctrl, ctrlWrite_of_decode _ hdec]

theorem decode_of_decodeTableWord {nbits w : Nat} {i : Instr} (h : decodeTableWord nbits w = some i) :
    decode (BitVec.ofNat 8 (w % 2 ^ nbits)) = .ok i := by
  unfold decodeTableWord at h
  split at h
  next j hj => exact hj.trans (congrArg _ (Option.some.inj h))
  next => cases h

/-- Settles O3: the step takes the write from the queue; a legal CTRL byte, also one placed as an instruction word, is
the operation it decodes to. -/
theorem stepRunsDecodedOperation : Obligations.StepRunsDecodedOperation :=
  ⟨fun _ _ _ _ hpending hline => step_wr_released hpending hline,
    fun _ _ _ _ hpending hline _ hdec => step_ctrl_released hpending hline hdec,
    fun s w _ h => step_ctrl_released (s := s.withFetchWord 8 w) rfl rfl (decode_of_decodeTableWord h)⟩

/-! ### The reset state -/

theorem readReg_reset (r : Reg) : readReg r State.reset = 0x00 := by
  cases r <;> rfl

/-- Settles O4: a register reads its reset value, an unlisted buffer byte and a reserved address read 0x00. -/
theorem resetClearsEveryRegister : Obligations.ResetClearsEveryRegister := by
  intro a
  unfold memRead
  split
  next r _ => exact readReg_reset r
  next => exact Memory.read_nil a.toNat
  next => rfl

/-- Settles O43: the three invariants of the registers and buffers, and a released reset input. -/
theorem invariantsHoldAtReset : Obligations.InvariantsHoldAtReset :=
  ⟨memoryOk_reset, statusOk_reset, outputsOk_reset, fun _ => rfl, rfl⟩

end Sys2Proof.StateFile
end

section
/-! PROOFS. The statements of spec/20_memory.md: what a host read and a host write do at every address of the map, what
a byte written reads back, and that a CTRL write repeated gives the same state. -/

namespace Sys2Proof.MemoryMap

open Sys2Proof.Machine Sys2Proof.Claim Sys2Proof.StateFile Sys2Proof.Scope

/-! ### The address map -/

theorem locate_addr (r : Reg) : locate r.addr = .reg r := by
  cases r <;> rfl

theorem addr_of_locate {a : Byte} {r : Reg} (h : locate a = .reg r) : r.addr = a := by
  unfold locate at h
  split at h
  next r' hfind =>
    cases h
    simpa using List.find?_some hfind
  next => split at h <;> cases h

theorem locate_eq_buffer_iff : ∀ a : Byte, locate a = .buffer ↔ isBuffer a.toNat = true := by decide

theorem locate_eq_reserved_iff : ∀ a : Byte, locate a = .reserved ↔ reservedAddr a := by
  unfold reservedAddr
  decide

/-- Whether a host write at this place stores the byte: a read/write register or a buffer byte (R31). -/
def stores : Loc → Bool
  | .reg r => r ∉ ([.status, .errInfo, .outVariant, .outPower, .outMode, .outTemp, .outFan, .outVane, .outIsee,
      .outEcono, .outTimer, .outTimerOff, .outTimerOn, .outCheck] : List Reg)
  | .buffer => true
  | .reserved => false

theorem stores_iff_writable : ∀ a : Byte, a ≠ 0x00 → (stores (locate a) = true ↔ writable a) := by
  unfold writable
  decide

/-- No write changes STATUS, ERRINFO, an OUT_ register or a reserved address (R37). -/
theorem not_writable_of_readOnly {a : Byte}
    (h : a = 0x01 ∨ a = 0x02 ∨ (0x20 ≤ a.toNat ∧ a.toNat ≤ 0x2B) ∨ reservedAddr a) :
    a ≠ 0x00 ∧ ¬ writable a := by
  unfold reservedAddr at h
  unfold writable
  bv_omega

theorem stores_eq_false_of_not_writable {a : Byte} (ha : a ≠ 0x00) (h : ¬ writable a) : stores (locate a) = false :=
  Bool.eq_false_iff.2 fun hstores => h ((stores_iff_writable a ha).1 hstores)

/-! ### Reads -/

theorem memRead_reg {a : Byte} {r : Reg} (s : State) (h : locate a = .reg r) : memRead a s = readReg r s := by
  simp only [memRead, h]

theorem memRead_buffer {a : Byte} (s : State) (h : locate a = .buffer) : memRead a s = s.mem.read a.toNat := by
  simp only [memRead, h]

theorem memRead_reserved {a : Byte} (s : State) (h : locate a = .reserved) : memRead a s = 0x00 := by
  simp only [memRead, h]

theorem memRead_addr (r : Reg) (s : State) : memRead r.addr s = readReg r s :=
  memRead_reg s (locate_addr r)

/-- A FRAME or SYM byte, at the address its number gives (R26, R27). -/
theorem memRead_ofNat_buffer (n : Nat) (s : State) (hn : n < 256) (h : isBuffer n = true) :
    memRead (BitVec.ofNat 8 n) s = s.mem.read n := by
  have htoNat : (BitVec.ofNat 8 n).toNat = n := (BitVec.toNat_ofNat n 8).trans (Nat.mod_eq_of_lt hn)
  rw [memRead_buffer s ((locate_eq_buffer_iff _).2 (htoNat.symm ▸ h)), htoNat]

theorem readReg_setMem (r : Reg) (m : Memory) (s : State) : readReg r (s.setMem m) = readReg r s := by
  cases r <;> rfl

theorem readReg_setHost (r : Reg) (h : HostSide) (s : State) : readReg r (s.setHost h) = readReg r s := by
  cases r <;> rfl

/-- What the host reads does not depend on the host's own record. -/
theorem memRead_setHost (a : Byte) (h : HostSide) (s : State) : memRead a (s.setHost h) = memRead a s := by
  unfold memRead
  split
  · exact readReg_setHost _ h s
  · rfl
  · rfl

theorem hostEvent_rd_released {s : State} (a : Byte) (h : s.host.resetLine = false) :
    hostEvent (.rd a) s = .next (recordRead a (memRead a s) none s) := by
  simp [hostEvent, h]

theorem hostEvent_expect_released {s : State} (a v : Byte) (h : s.host.resetLine = false) :
    hostEvent (.expect a v) s = .next (recordRead a (memRead a s) (some v) s) := by
  simp [hostEvent, h]

/-- The host goes on to its next access and keeps what it read; the block stays as it is. -/
theorem recordRead_setPending (s : State) (es : List HostEvent) (a : Byte) (claim : Option Byte) :
    recordRead a (memRead a (s.setPending es)) claim (s.setPending es) = afterRead s es a (memRead a s) claim := by
  rw [State.setPending_eq, memRead_setHost]
  rfl

theorem step_rd_released {s : State} {a : Byte} {es : List HostEvent} (hpending : s.host.pending = .rd a :: es)
    (hline : s.host.resetLine = false) : step s = .next (afterRead s es a (memRead a s) none) := by
  rw [step_event s _ es hpending, hostEvent_rd_released a (s := s.setPending es) hline, recordRead_setPending]

theorem step_expect_released {s : State} {a v : Byte} {es : List HostEvent}
    (hpending : s.host.pending = .expect a v :: es) (hline : s.host.resetLine = false) :
    step s = .next (afterRead s es a (memRead a s) (some v)) := by
  rw [step_event s _ es hpending, hostEvent_expect_released a v (s := s.setPending es) hline, recordRead_setPending]

/-- Settles O8: a register's address reads the register, a buffer address its byte, a reserved one 0x00, and a step that
reads changes the host's record only. -/
theorem hostReadsTheMap : Obligations.HostReadsTheMap := by
  intro s
  have reg (r : Reg) : memRead r.addr s = readReg r s := memRead_addr r s
  refine ⟨⟨reg .ctrl, reg .status, reg .errInfo, reg .frameLen, reg .symLen, reg .tbWidth, reg .tbOffset,
      reg .tbValueLo, reg .tbValueHi⟩,
    ⟨reg .inPower, reg .inMode, reg .inTemp, reg .inFan, reg .inVane, reg .inIsee, reg .inEcono, reg .inHour,
      reg .inMinute⟩,
    ⟨reg .outVariant, reg .outPower, reg .outMode, reg .outTemp, reg .outFan, reg .outVane, reg .outIsee,
      reg .outEcono, reg .outTimer, reg .outTimerOff, reg .outTimerOn, reg .outCheck⟩,
    fun i hi => ?_, fun j hj => ?_, fun a ha => ?_, fun _ _ => step_rd_released, fun _ _ _ => step_expect_released⟩
  · exact memRead_ofNat_buffer (0x40 + i) s (by omega) ((isBuffer_iff _).2 (by omega))
  · exact memRead_ofNat_buffer (0x60 + j) s (by omega) ((isBuffer_iff _).2 (by omega))
  · exact memRead_reserved s ((locate_eq_reserved_iff a).2 ha)

/-! ### Writes -/

theorem storeByte_reg {a : Byte} {r : Reg} (v : Byte) (s : State) (h : locate a = .reg r) :
    storeByte a v s = writeReg r v s := by
  simp only [storeByte, h]

theorem storeByte_buffer {a : Byte} (v : Byte) (s : State) (h : locate a = .buffer) :
    storeByte a v s = s.setMem (s.mem.write a.toNat v) := by
  simp only [storeByte, h]

theorem writeReg_of_not_stores {r : Reg} (v : Byte) (s : State) (h : stores (.reg r) = false) :
    writeReg r v s = s := by
  revert h
  cases r <;> simp [stores, writeReg]

theorem storeByte_of_not_stores {a : Byte} (v : Byte) (s : State) (h : stores (locate a) = false) :
    storeByte a v s = s := by
  rcases hloc : locate a with r | _ | _
  · rw [storeByte_reg v s hloc, writeReg_of_not_stores v s (hloc ▸ h)]
  · rw [hloc] at h
    cases h
  · simp only [storeByte, hloc]

theorem memWrite_addr (r : Reg) (v : Byte) (s : State) (h : r.addr ≠ 0x00) :
    memWrite r.addr v s = .next (writeReg r v s) := by
  rw [memWrite_other r.addr v s h, storeByte_reg v s (locate_addr r)]

theorem memWrite_of_not_stores {a : Byte} (v : Byte) (s : State) (ha : a ≠ 0x00) (h : stores (locate a) = false) :
    memWrite a v s = .next s := by
  rw [memWrite_other a v s ha, storeByte_of_not_stores v s h]

/-- A write of a FRAME or SYM byte (R26, R27). -/
theorem memWrite_buffer {a : Byte} (v : Byte) (s : State) (h : isBuffer a.toNat = true) :
    memWrite a v s = .next (s.setMem (s.mem.write a.toNat v)) := by
  have ha : a ≠ 0x00 := by
    rintro rfl
    cases h
  rw [memWrite_other a v s ha, storeByte_buffer v s ((locate_eq_buffer_iff a).2 h)]

theorem sameOutside_write (m : Memory) (a : Nat) (v : Byte) : sameOutside (m.write a v) m a (a + 1) :=
  sameOutside_writeBytes m (vs := [v]) le_rfl le_rfl

theorem legalCtrl_of_decode : ∀ b : Byte, (decode b).toOption.isSome = true → b ∈ legalCtrl := by decide

/-- A CTRL byte the decoder rejects is stored and reported (R46). -/
theorem ctrlWrite_of_reject {v : Byte} {r : DecodeReject} (s : State) (h : decode v = .error r) :
    ctrlWrite v s = .next (illegalWrite v s) := by
  rw [ctrlWrite, h]

theorem exists_reject_of_illegal {v : Byte} (h : v ∉ legalCtrl) : ∃ r, decode v = .error r := by
  rcases hdec : decode v with r | i
  · exact ⟨r, rfl⟩
  · exact absurd (legalCtrl_of_decode v (by rw [hdec]; rfl)) h

theorem illegalWrite_eq_errorState (v : Byte) (s : State) : illegalWrite v s = errorState s v 4 v := by
  rw [illegalWrite_eq, statusFinish_err]
  rfl

/-- Settles O9: what is stored is decided by what stands at the address, and only CTRL starts an operation. -/
theorem hostWritesTheMap : Obligations.HostWritesTheMap := by
  intro s v
  have reg (r : Reg) (h : r.addr ≠ 0x00) : memWrite r.addr v s = .next (writeReg r v s) := memWrite_addr r v s h
  refine ⟨⟨reg .frameLen (by decide), reg .symLen (by decide), reg .tbWidth (by decide), reg .tbOffset (by decide),
      reg .tbValueLo (by decide), reg .tbValueHi (by decide)⟩,
    ⟨reg .inPower (by decide), reg .inMode (by decide), reg .inTemp (by decide), reg .inFan (by decide),
      reg .inVane (by decide), reg .inIsee (by decide), reg .inEcono (by decide), reg .inHour (by decide),
      reg .inMinute (by decide)⟩, fun a ha => ?_, fun a ha => ?_, fun i hdec => ?_, fun hillegal => ?_⟩
  · refine ⟨_, memWrite_buffer v s ((isBuffer_iff _).2 (by omega)), ?_, sameOutside_write _ _ v⟩
    rw [Memory.read_write, if_pos rfl]
  · obtain ⟨hctrl, hw⟩ := not_writable_of_readOnly ha
    exact memWrite_of_not_stores v s hctrl (stores_eq_false_of_not_writable hctrl hw)
  · rw [memWrite_ctrl, ctrlWrite_of_decode s hdec]
  · obtain ⟨r, hdec⟩ := exists_reject_of_illegal hillegal
    rw [memWrite_ctrl, ctrlWrite_of_reject s hdec, illegalWrite_eq_errorState]

/-! ### A byte written reads back -/

theorem readReg_writeReg_same (r : Reg) (v : Byte) (s : State) (h : stores (.reg r) = true) :
    readReg r (writeReg r v s) = v := by
  revert h
  cases r <;> simp [stores, readReg, writeReg]

theorem readReg_writeReg_ne {r q : Reg} (v : Byte) (s : State) (h : q ≠ r) :
    readReg q (writeReg r v s) = readReg q s := by
  revert h
  cases r <;> cases q <;> simp [readReg, writeReg]

theorem memRead_storeByte_same {a : Byte} (v : Byte) (s : State) (h : stores (locate a) = true) :
    memRead a (storeByte a v s) = v := by
  rcases hloc : locate a with r | _ | _
  · rw [memRead_reg _ hloc, storeByte_reg v s hloc, readReg_writeReg_same r v s (hloc ▸ h)]
  · rw [memRead_buffer _ hloc, storeByte_buffer v s hloc, State.setMem_mem, Memory.read_write, if_pos rfl]
  · rw [hloc] at h
    cases h

/-- What a write of a register leaves at every other address: two registers have two addresses. -/
theorem memRead_writeReg_ne {b : Byte} {r : Reg} (v : Byte) (s : State) (h : b ≠ r.addr) :
    memRead b (writeReg r v s) = memRead b s := by
  rcases hloc : locate b with q | _ | _
  · have hq : q ≠ r := fun hqr => h (hqr ▸ (addr_of_locate hloc).symm)
    rw [memRead_reg _ hloc, memRead_reg _ hloc, readReg_writeReg_ne v s hq]
  · rw [memRead_buffer _ hloc, memRead_buffer _ hloc, writeReg_mem]
  · rw [memRead_reserved _ hloc, memRead_reserved _ hloc]

/-- What a write of one buffer byte leaves at every other address. -/
theorem memRead_write_ne {a b : Byte} (v : Byte) (s : State) (h : b ≠ a) :
    memRead b (s.setMem (s.mem.write a.toNat v)) = memRead b s := by
  rcases hloc : locate b with q | _ | _
  · rw [memRead_reg _ hloc, memRead_reg _ hloc, readReg_setMem]
  · have hne : b.toNat ≠ a.toNat := fun heq => h (BitVec.eq_of_toNat_eq heq)
    rw [memRead_buffer _ hloc, memRead_buffer _ hloc, State.setMem_mem, Memory.read_write, if_neg hne]
  · rw [memRead_reserved _ hloc, memRead_reserved _ hloc]

theorem memRead_storeByte_ne {a b : Byte} (v : Byte) (s : State) (h : b ≠ a) :
    memRead b (storeByte a v s) = memRead b s := by
  rcases hloc : locate a with r | _ | _
  · rw [storeByte_reg v s hloc, memRead_writeReg_ne v s (addr_of_locate hloc ▸ h)]
  · rw [storeByte_buffer v s hloc, memRead_write_ne v s h]
  · simp only [storeByte, hloc]

/-- Settles O10: a byte is stored exactly at the writable addresses, and no address shares its byte with another. -/
theorem writeReadsBack : Obligations.WriteReadsBack := by
  intro s a v ha
  refine ⟨_, memWrite_other a v s ha, fun hw => ?_, fun hw => ?_, fun b hb => ?_⟩
  · exact memRead_storeByte_same v s ((stores_iff_writable a ha).2 hw)
  · exact storeByte_of_not_stores v s (stores_eq_false_of_not_writable ha hw)
  · exact memRead_storeByte_ne v s hb

/-! ### A commit made twice -/

theorem statusFinish_statusFinish (c : BitVec 3) (st : Byte) :
    statusFinish c (statusFinish c st) = statusFinish c st := by
  rw [statusFinish, statusRes_finish, statusValid_finish, ← statusFinish]

/-- STATUS after a commit that writes VALID as well: only bits 7:5 are carried over (R102, R103). -/
theorem statusSetValid_finish (v : Bool) (c : BitVec 3) (st : Byte) :
    statusSetValid v (statusFinish c st) = statusOf (statusRes st) c v true := by
  rw [statusSetValid, statusRes_finish, statusErr_finish, statusDone_finish]

/-- The STATUS a decode's error leaves is the one it leaves again (R103). -/
theorem statusSetValid_finish_again (v : Bool) (c : BitVec 3) (st : Byte) :
    statusSetValid v (statusFinish c (statusSetValid v (statusFinish c st))) =
      statusSetValid v (statusFinish c st) := by
  rw [statusSetValid_finish, statusRes_setValid, statusRes_finish, statusSetValid_finish]

/-- VALID, once set by a decode, is set again by the same decode with no change of STATUS (R102). -/
theorem statusSetValid_finish_setValid (v : Bool) (c : BitVec 3) (st : Byte) :
    statusSetValid v (statusFinish c (statusSetValid v st)) = statusFinish c (statusSetValid v st) := by
  rw [statusSetValid_finish, statusFinish, statusValid_setValid]

theorem commitSuccess_mem (s : State) : (commitSuccess s).mem = s.mem := rfl

theorem commitSuccess_frameLen (s : State) : (commitSuccess s).frameLen = s.frameLen := rfl

theorem writeFrame_frameLen (s : State) (k : Nat) (vs : List Byte) : (s.writeFrame k vs).frameLen = s.frameLen := rfl

theorem commitSuccess_commitSuccess (s : State) : commitSuccess (commitSuccess s) = commitSuccess s := by
  rw [commitSuccess_eq, commitSuccess_eq]
  dsimp only
  rw [statusFinish_statusFinish]

theorem commitError_commitError (op : Option Instr) (e : OpError) (s : State) :
    commitError op e (commitError op e s) = commitError op e s := by
  rw [commitError_eq op e (commitError op e s), commitError_eq op e s]
  cases clearsValid op <;> cases clearsCheck op <;> simp [statusFinish_statusFinish, statusSetValid_finish_again]

/-! ### Operands after the operation -/

/-- An error touches no operand (R103). -/
theorem sameOperands_commitError (i : Instr) (op : Option Instr) (e : OpError) (s : State) :
    sameOperands i (commitError op e s) s := by
  rw [commitError_eq]
  cases i <;> simp [sameOperands, sameCommandA, sameCommandB, sameFrame]

/-- Where FRAME bytes are written, the FRAME bytes before them stay. -/
theorem sameFrame_of_writeBytes {s t : State} {k lo hi : Nat} {vs : List Byte}
    (hmem : t.mem = s.mem.writeBytes (frameBase + k) vs) (h : hi ≤ k) : sameFrame t s lo hi := by
  intro i _ hi'
  rw [hmem, Memory.read_writeBytes, if_neg (by simp only [frameBase]; omega)]

/-- Every operation but REV keeps the operands it reads (R38). -/
theorem sameOperands_commitSuccess (i : Instr) (s : State) (hi : i ≠ .rev) :
    sameOperands i (commitSuccess (effectOf i s)) s := by
  cases i
  case rev => exact absurd rfl hi
  case tobin => exact ⟨rfl, rfl, rfl, rfl⟩
  case parse => exact ⟨rfl, fun j _ => State.sym_writeFrame s 0 j _ (by simp)⟩
  case enca | encaRaw => exact ⟨rfl, rfl, rfl, rfl, rfl⟩
  case encb | encbRaw => exact ⟨⟨rfl, rfl, rfl, rfl, rfl⟩, rfl, rfl, rfl, rfl⟩
  case deca | decb | csumaChk | csumbChk => exact ⟨rfl, fun _ _ _ => rfl⟩
  case csumaGen =>
    have hlen := (commitSuccess_frameLen (csumaGenEffect s)).trans (writeFrame_frameLen s 11 _)
    have hmem := (commitSuccess_mem _).trans (csumaGenEffect_mem s)
    exact ⟨hlen, sameFrame_of_writeBytes hmem le_rfl⟩
  case csumbGen =>
    have hlen := (commitSuccess_frameLen (csumbGenEffect s)).trans (writeFrame_frameLen s 17 _)
    have hmem := (commitSuccess_mem _).trans (csumbGenEffect_mem s)
    exact ⟨hlen, sameFrame_of_writeBytes hmem le_rfl⟩

/-! ### An effect made twice -/

theorem writeBytes_writeBytes {m : Memory} (a : Nat) (vs : List Byte) (h : m.wf = true) :
    (m.writeBytes a vs).writeBytes a vs = m.writeBytes a vs := by
  have hwf := Memory.wf_writeBytes m a vs h
  refine Memory.ext_of_wf _ _ (Memory.wf_writeBytes _ a vs hwf) hwf fun b => ?_
  rw [Memory.read_writeBytes (m.writeBytes a vs), Memory.read_writeBytes m]
  split <;> rfl

/-- Writing bytes that were just written changes nothing. -/
theorem setMem_writeBytes_eq_self {m : Memory} (t : State) {a : Nat} {vs : List Byte} (hwf : m.wf = true)
    (hmem : t.mem = m.writeBytes a vs) : t.setMem (t.mem.writeBytes a vs) = t := by
  rw [hmem, writeBytes_writeBytes a vs hwf, ← hmem]
  rfl

section Again

/-! `t` is a state in which an effect was made on `s`: it has the operands of `s` and the effect's results. -/

variable {s t : State}

theorem tobinEffect_eq_self (hwf : s.mem.wf = true) (hops : sameOperands .tobin t s)
    (hmem : t.mem = (tobinEffect s).mem) (hlen : t.symLen = (tobinEffect s).symLen) : tobinEffect t = t := by
  obtain ⟨hwidth, hoffset, hlo, hhi⟩ := hops
  rw [tobinEffect, State.writeSym_eq, hwidth, hoffset, tbValue_congr hlo hhi,
    setMem_writeBytes_eq_self t hwf (hmem.trans (tobinEffect_mem s))]
  exact congrArg t.setSymLen hlen.symm

theorem parseEffect_eq_self (hwf : s.mem.wf = true) (hops : sameOperands .parse t s)
    (hmem : t.mem = (parseEffect s).mem) (hlen : t.frameLen = (parseEffect s).frameLen) : parseEffect t = t := by
  obtain ⟨hsymLen, hsym⟩ := hops
  have hbytes : (List.range 18).map (packedByte t t.symLen.toNat) =
      (List.range 18).map (packedByte s s.symLen.toNat) :=
    hsymLen ▸ List.map_congr_left fun i _ => packedByte_congr _ i hsym
  rw [parseEffect, State.writeFrame_eq, hbytes, setMem_writeBytes_eq_self t hwf (hmem.trans (parseEffect_mem s)),
    hsymLen]
  exact congrArg t.setFrameLen hlen.symm

theorem encaEffect_eq_self (p : Params) (hwf : s.mem.wf = true) (hops : sameCommandA t s) (hctrl : t.ctrl = s.ctrl)
    (hmem : t.mem = (encaEffect p s).mem) (hlen : t.frameLen = (encaEffect p s).frameLen) : encaEffect p t = t := by
  rw [encaEffect, State.writeFrame_eq, hctrl, assembleA_congr p hops,
    setMem_writeBytes_eq_self t hwf (hmem.trans (encaEffect_mem p s))]
  exact congrArg t.setFrameLen hlen.symm

theorem encbEffect_eq_self (p : Params) (hwf : s.mem.wf = true) (hops : sameCommandB t s) (hctrl : t.ctrl = s.ctrl)
    (hmem : t.mem = (encbEffect p s).mem) (hlen : t.frameLen = (encbEffect p s).frameLen) : encbEffect p t = t := by
  rw [encbEffect, State.writeFrame_eq, hctrl, assembleB_congr p hops,
    setMem_writeBytes_eq_self t hwf (hmem.trans (encbEffect_mem p s))]
  exact congrArg t.setFrameLen hlen.symm

theorem csumaGenEffect_eq_self (hwf : s.mem.wf = true) (hops : sameFrame t s 5 11)
    (hmem : t.mem = (csumaGenEffect s).mem) : csumaGenEffect t = t := by
  have hbytes : (List.range 6).map (fun i => (0xFF : Byte) ^^^ t.frame (5 + i)) =
      (List.range 6).map fun i => (0xFF : Byte) ^^^ s.frame (5 + i) :=
    List.map_congr_left fun i hi => by
      have hi' := List.mem_range.1 hi
      rw [frame_eq_of_sameFrame hops (5 + i) (by omega) (by omega)]
  rw [csumaGenEffect, State.writeFrame_eq, hbytes,
    setMem_writeBytes_eq_self t hwf (hmem.trans (csumaGenEffect_mem s))]

theorem csumbGenEffect_eq_self (hwf : s.mem.wf = true) (hops : sameFrame t s 0 17)
    (hmem : t.mem = (csumbGenEffect s).mem) : csumbGenEffect t = t := by
  rw [csumbGenEffect, State.writeFrame_eq, summedBytes_congr hops,
    setMem_writeBytes_eq_self t hwf (hmem.trans (csumbGenEffect_mem s))]

/-- A decode of the fields, the verdict and VALID that already stand in the registers. -/
theorem setDecode_eq_self {d : Decoded} {c : Byte} (hfields : t.decoded = d) (hcheck : t.outCheck = c)
    (hvalid : statusSetValid true t.status = t.status) : ((t.setDecoded d).setOutCheck c).setValid true = t := by
  subst hfields hcheck
  exact congrArg t.setStatus hvalid

end Again

/-- The effect of every operation but REV, made again after the operation completed, changes nothing (R38). -/
theorem effectOf_commitSuccess (i : Instr) (s : State) (hwf : s.mem.wf = true) (hi : i ≠ .rev) :
    effectOf i (commitSuccess (effectOf i s)) = commitSuccess (effectOf i s) := by
  have hops := sameOperands_commitSuccess i s hi
  cases i
  case rev => exact absurd rfl hi
  case tobin => exact tobinEffect_eq_self hwf hops rfl rfl
  case parse => exact parseEffect_eq_self hwf hops rfl rfl
  case enca | encaRaw => exact encaEffect_eq_self _ hwf hops rfl rfl rfl
  case encb | encbRaw => exact encbEffect_eq_self _ hwf hops rfl rfl rfl
  case csumaGen => exact csumaGenEffect_eq_self hwf hops.2 (commitSuccess_mem _)
  case csumbGen => exact csumbGenEffect_eq_self hwf hops.2 (commitSuccess_mem _)
  case deca =>
    exact setDecode_eq_self (fieldsA_congr hops.2).symm
      (congrArg verdict (checksumOkA_congr (sameFrame_mono hops.2 (by omega) le_rfl))).symm
      (statusSetValid_finish_setValid true 0 s.status)
  case decb =>
    exact setDecode_eq_self (fieldsB_congr _ hops.2).symm (congrArg verdict (checksumOkB_congr hops.2)).symm
      (statusSetValid_finish_setValid true 0 s.status)
  case csumaChk => exact congrArg (State.setOutCheck _) (congrArg verdict (checksumOkA_congr hops.2))
  case csumbChk => exact congrArg (State.setOutCheck _) (congrArg verdict (checksumOkB_congr hops.2))

/-! ### An operation performed twice -/

theorem exec_ok {i : Instr} {s : State} (hctrl : s.ctrl = encode i) (h : firstFailure (checksOf i s) = none) :
    exec i s = .next (commitSuccess (effectOf i s)) := by
  have hset : s.setCtrl (encode i) = s := hctrl ▸ rfl
  rw [exec_eq_perform, perform_ok i _ _ s (hset.symm ▸ h), hset]

theorem exec_error {i : Instr} {s : State} {e : OpError} (hctrl : s.ctrl = encode i)
    (h : firstFailure (checksOf i s) = some e) : exec i s = .next (commitError (some i) e s) := by
  have hset : s.setCtrl (encode i) = s := hctrl ▸ rfl
  rw [exec_eq_perform, perform_error i _ _ s e (hset.symm ▸ h), hset]

/-- An operation performed again passes the same tests and commits what it committed, or fails the same test. -/
theorem exec_exec (i : Instr) (s : State) (hwf : s.mem.wf = true) (hi : i ≠ .rev) :
    ∃ t : State, exec i s = .next t ∧ exec i t = .next t := by
  rcases exec_cases i s with ⟨hpass, hrun⟩ | ⟨e, hfail, hrun⟩
  · have hops := sameOperands_commitSuccess i (s.setCtrl (encode i)) hi
    refine ⟨_, hrun, ?_⟩
    rw [exec_ok (effectOf_ctrl i _) (checksOf_congr i hops ▸ hpass),
      effectOf_commitSuccess i (s.setCtrl (encode i)) hwf hi, commitSuccess_commitSuccess]
  · have hops := sameOperands_commitError i (some i) e (s.setCtrl (encode i))
    refine ⟨_, hrun, ?_⟩
    rw [exec_error (congrArg State.ctrl (commitError_eq _ _ _)) (checksOf_congr i hops ▸ hfail),
      commitError_commitError]

theorem illegalWrite_illegalWrite (v : Byte) (s : State) : illegalWrite v (illegalWrite v s) = illegalWrite v s := by
  rw [illegalWrite_eq, illegalWrite_eq]
  dsimp only
  rw [statusFinish_statusFinish]

/-- Settles O38: REV is the only operation whose operands are among what it writes; an illegal byte is reported alike
each time. -/
theorem repeatedCtrlWriteIsIdempotent : Obligations.RepeatedCtrlWriteIsIdempotent := by
  intro s v hmem hv
  simp only [memWrite_ctrl]
  rcases hdec : decode v with r | i
  · exact ⟨_, ctrlWrite_of_reject s hdec, by rw [ctrlWrite_of_reject _ hdec, illegalWrite_illegalWrite]⟩
  · have hi : i ≠ .rev := by
      rintro rfl
      exact hv (encode_of_decode v .rev (by simp [hdec, Except.toOption])).symm
    simp only [ctrlWrite_of_decode _ hdec]
    exact exec_exec i s hmem.1 hi

end Sys2Proof.MemoryMap
end

section
/-! PROOFS. The statements of spec/30_encoding.md: the map between operations and CTRL bytes (R43 to R46), and the
accesses a host program stands for, from its lines and from its text (R48). -/

namespace Sys2Proof.Encoding

open Sys2Proof.Machine Sys2Proof.Claim Sys2Proof.StateFile Sys2Proof.MemoryMap

/-! ### Operations and CTRL bytes -/

theorem decode_encode (i : Instr) : decode (encode i) = .ok i := by
  cases i <;> rfl

/-- A byte selects an operation exactly if it is that operation's encoding: R44 gives each operation one byte. -/
theorem decode_eq_ok_iff (b : Byte) (i : Instr) : decode b = .ok i ↔ encode i = b := by
  constructor
  · intro hdec
    exact encode_of_decode b i (by simp [hdec, Except.toOption])
  · rintro rfl
    exact decode_encode i

theorem encode_mem_legalCtrl (i : Instr) : encode i ∈ legalCtrl := by
  cases i <;> decide

theorem exists_encode_of_legal : ∀ b ∈ legalCtrl, ∃ i ∈ allInstrs, encode i = b := by decide

/-- The legal bytes of R46 are the encodings of the thirteen operations. -/
theorem mem_legalCtrl_iff (b : Byte) : b ∈ legalCtrl ↔ ∃ i, encode i = b := by
  constructor
  · intro hlegal
    obtain ⟨i, -, hi⟩ := exists_encode_of_legal b hlegal
    exact ⟨i, hi⟩
  · rintro ⟨i, rfl⟩
    exact encode_mem_legalCtrl i

/-- Settles O1: the decoder inverts the encoder, and the encodings are the legal bytes. -/
theorem decodeAndEncodeAgree : Obligations.DecodeAndEncodeAgree := by
  refine ⟨fun i _ => decode_encode i, fun b i => (decode_eq_ok_iff b i).1, fun b => ?_⟩
  rw [mem_legalCtrl_iff]
  exact exists_congr (decode_eq_ok_iff b)

/-- Settles O2: each byte is the encoding of its operation, RES, RAW and OP side by side. -/
theorem opcodeMapWordsDecode : Obligations.OpcodeMapWordsDecode :=
  ⟨(decode_eq_ok_iff _ .parse).2 rfl, (decode_eq_ok_iff _ .enca).2 rfl, (decode_eq_ok_iff _ .encaRaw).2 rfl,
    (decode_eq_ok_iff _ .decb).2 rfl, (decode_eq_ok_iff _ .encbRaw).2 rfl⟩

/-- Settles O7: the decoder rejects the byte, and the whole effect is the error commit that clears nothing (R103). -/
theorem illegalCtrlByteIsReported : Obligations.IllegalCtrlByteIsReported := by
  intro s b hillegal
  obtain ⟨r, hreject⟩ := exists_reject_of_illegal hillegal
  rw [memWrite_ctrl, ctrlWrite_of_reject s hreject, illegalWrite_eq_errorState]

/-! ### The lines of a host program -/

theorem toNat_addr (r : Reg) : r.addr.toNat = registerAddress r := by
  cases r <;> rfl

theorem encode_eq_pseudoByte (i : Instr) : encode i = pseudoByte i := by
  cases i <;> rfl

theorem value_eq_addressNumber (a : AddrExpr) : a.value = addressNumber a := by
  cases a with
  | num | framePlus | symPlus => rfl
  | reg r => exact toNat_addr r

theorem addrExpr_wellFormed_iff (a : AddrExpr) : a.wellFormed = true ↔ addressNumber a ≤ 0xFF := by
  cases a with
  | num | framePlus | symPlus => exact decide_eq_true_iff
  | reg r => exact iff_of_true rfl ((toNat_addr r).ge.trans (Nat.le_of_lt_succ r.addr.isLt))

theorem instr_wellFormed (i : Instr) : i.wellFormed = true := by
  cases i <;> rfl

/-- The check the assembler makes of a line is R48's range. -/
theorem line_wellFormed_iff (l : Line) : l.wellFormed = true ↔ lineInRange l := by
  cases l with
  | wr a v | expect a v => simp [Line.wellFormed, lineInRange, addrExpr_wellFormed_iff]
  | rd a => exact addrExpr_wellFormed_iff a
  | pseudo i => exact iff_of_true (instr_wellFormed i) trivial
  | comment => exact iff_of_true rfl trivial

theorem expand_eq_lineAccess (l : Line) : l.expand = lineAccess l := by
  cases l with
  | wr a | rd a | expect a => simp only [Line.expand, lineAccess, value_eq_addressNumber]
  | pseudo i => simp only [Line.expand, lineAccess, encode_eq_pseudoByte, Reg.addr]
  | comment => rfl

theorem all_wellFormed_iff (lines : List Line) :
    lines.all Line.wellFormed = true ↔ ∀ l ∈ lines, lineInRange l := by
  simp only [List.all_eq_true, line_wellFormed_iff]

theorem assemble_of_inRange {lines : List Line} (h : ∀ l ∈ lines, lineInRange l) :
    assemble lines = some (lines.filterMap lineAccess) := by
  rw [assemble, if_pos ((all_wellFormed_iff lines).2 h), funext expand_eq_lineAccess]

theorem assemble_of_outOfRange {lines : List Line} (h : ∃ l ∈ lines, ¬ lineInRange l) : assemble lines = none := by
  obtain ⟨l, hl, hout⟩ := h
  rw [assemble, if_neg fun hall => hout ((all_wellFormed_iff lines).1 hall l hl)]

/-- Settles O14: the assembler's check is the range of R48, and its expansion of a line is the line's access. -/
theorem hostProgramAssembles : Obligations.HostProgramAssembles :=
  ⟨fun _ => assemble_of_outOfRange, fun _ => assemble_of_inRange⟩

/-! ### The text of a line -/

theorem readProgram_of_readLine {text : String} {l : Line} (h : readLine text.toList = some l) :
    readProgram [text] = some [l] := by
  simp only [readProgram, h]

/-- A text that is read as a line in range performs that line's access. -/
theorem assemble_text {text : String} {l : Line} (h : readLine text.toList = some l) (hwf : l.wellFormed = true) :
    (readProgram [text]).bind assemble = some (lineAccess l).toList := by
  have hrange : ∀ k ∈ [l], lineInRange k := List.forall_mem_singleton.2 ((line_wellFormed_iff l).1 hwf)
  rw [readProgram_of_readLine h, Option.bind_some, assemble_of_inRange hrange]
  cases l <;> rfl

/-- A text that is read as a line out of range is refused. -/
theorem assemble_text_refused {text : String} {l : Line} (h : readLine text.toList = some l)
    (hwf : l.wellFormed = false) : (readProgram [text]).bind assemble = none := by
  have hout : ¬ lineInRange l := fun hrange => Bool.false_ne_true (hwf.symm.trans ((line_wellFormed_iff l).2 hrange))
  rw [readProgram_of_readLine h, Option.bind_some, assemble_of_outOfRange ⟨l, List.mem_singleton_self l, hout⟩]

theorem readLine_mnemonic (i : Instr) : readLine (Instr.mnemonic i).toList = some (.pseudo i) := by
  cases i <;> decide

theorem readLine_rd_name (r : Reg) : readLine ("RD " ++ Reg.name r).toList = some (.rd (.reg r)) := by
  rw [String.toList_append]
  cases r <;> decide

theorem assemble_mnemonic (i : Instr) :
    (readProgram [Instr.mnemonic i]).bind assemble = some [.wr 0x00 (pseudoByte i)] :=
  assemble_text (readLine_mnemonic i) (instr_wellFormed i)

theorem assemble_rd_name (r : Reg) : (readProgram ["RD " ++ Reg.name r]).bind assemble = some [.rd r.addr] := by
  have hread := assemble_text (readLine_rd_name r) rfl
  rw [← expand_eq_lineAccess] at hread
  rw [hread, Line.expand, AddrExpr.value, BitVec.ofNat_toNat, BitVec.setWidth_eq]
  rfl

/-- Settles O15: the two tables of names are those of the operations and of the registers; each other text is read as
one line, in range or not. -/
theorem hostTextNamesAreRead : Obligations.HostTextNamesAreRead := by
  refine ⟨?_, ?_, ?_, assemble_text (l := .comment " text") (by decide) rfl, ?_⟩
  · change ∀ row ∈ allInstrs.map fun i => (Instr.mnemonic i, pseudoByte i), _
    rw [List.forall_mem_map]
    exact fun i _ => assemble_mnemonic i
  · change ∀ row ∈ allRegs.map fun r => (Reg.name r, r.addr), _
    rw [List.forall_mem_map]
    exact fun r _ => assemble_rd_name r
  · simp only [List.forall_mem_cons]
    refine ⟨?_, ?_, ?_, ?_, ?_, ?_, List.forall_mem_nil _⟩
    · exact assemble_text (l := .wr (.reg .inTemp) 24) (by decide) rfl
    · exact assemble_text (l := .wr (.num 0x12) 0x18) (by decide) rfl
    · exact assemble_text (l := .wr (.num 255) 255) (by decide) rfl
    · exact assemble_text (l := .expect (.framePlus 17) 0xE6) (by decide) rfl
    · exact assemble_text (l := .rd (.framePlus 0)) (by decide) rfl
    · exact assemble_text (l := .rd (.symPlus 143)) (by decide) rfl
  · simp only [List.forall_mem_cons]
    refine ⟨?_, ?_, ?_, ?_, List.forall_mem_nil _⟩
    · exact assemble_text_refused (l := .wr (.num 256) 0) (by decide) rfl
    · exact assemble_text_refused (l := .wr (.num 0) 256) (by decide) rfl
    · exact assemble_text_refused (l := .rd (.framePlus 192)) (by decide) rfl
    · exact assemble_text_refused (l := .expect (.symPlus 160) 0) (by decide) rfl

end Sys2Proof.Encoding
end

section
/-! PROOFS. The statements of spec/40_bit_utilities.md: rev8 (R66), what TOBIN, PARSE and REV do from every state (R69 to
R71), and the two laws about them (R72, R73). Each operation has lemmas for its tests, for its next state where they
pass, and for the bytes it leaves in memory. -/

namespace Sys2Proof.BitUtility

open Sys2Proof.Machine Sys2Proof.Claim Sys2Proof.StateFile Sys2Proof.MemoryMap

/-! ### Bits, digits and symbols -/

theorem getLsbD_rev8 (b : Byte) {i : Nat} (hi : i < 8) : (rev8 b).getLsbD i = b.getLsbD (7 - i) :=
  getLsbD_byteOfBits _ i hi

theorem rev8_rev8 (b : Byte) : rev8 (rev8 b) = b := by
  refine BitVec.eq_of_getLsbD_eq fun i hi => ?_
  rw [getLsbD_rev8 _ hi, getLsbD_rev8 b (by omega), show 7 - (7 - i) = i by omega]

/-- Settles O6: the reversal of eight positions, and the same reversal made twice. -/
theorem revByteReversesBits : Obligations.RevByteReversesBits :=
  fun b => ⟨fun _ hi => getLsbD_rev8 b hi, rev8_rev8 b⟩

theorem digit_eq (b : Bool) : digit b = if b then 0x31 else 0x30 := by
  cases b <;> rfl

/-- The two digit characters are symbols (R67). -/
theorem symbol_digit (b : Bool) : symbol (digit b) := by
  cases b
  · exact .inr (.inr (.inl rfl))
  · exact .inr (.inr (.inr rfl))

/-- A digit character stands for the bit it renders (R67). -/
theorem symbolBit_digit (b : Bool) : symbolBit (digit b) = b := by
  cases b <;> rfl

theorem isSymbol_iff (b : Byte) : isSymbol b = true ↔ symbol b := by
  simp only [isSymbol, symbol, Bool.or_eq_true, beq_iff_eq, or_assoc]

theorem isSymbol_eq_false_iff (b : Byte) : isSymbol b = false ↔ ¬ symbol b := by
  rw [← isSymbol_iff, Bool.not_eq_true]

/-- Bit `k` of the bitstring PARSE packs, in the byte and at the position R32 gives it. -/
theorem getLsbD_packedByte (s : State) (n k : Nat) :
    (packedByte s n (k / 8)).getLsbD (7 - k % 8) = (decide (k < n) && symbolBit (s.sym k)) := by
  rw [packedByte, getLsbD_byteOfBits _ _ (by omega), show 8 * (k / 8) + (7 - (7 - k % 8)) = k by omega]

/-! ### The commits in the words of R102 and R103 -/

theorem doneStatus_doneStatus (st : Byte) : doneStatus (doneStatus st) = doneStatus st := by
  have h := statusFinish_statusFinish 0 st
  rwa [statusFinish_done, statusFinish_done] at h

/-- An operation whose error clears neither STATUS.VALID nor OUT_CHECK changes CTRL, STATUS and ERRINFO only (R103). -/
theorem exec_eq_errorState {i : Instr} {s : State} {e : OpError} {code info : Byte}
    (hvalid : clearsValid (some i) = false) (hcheck : clearsCheck (some i) = false)
    (h : firstFailure (checksOf i (s.setCtrl (encode i))) = some e) (hcode : e.code.setWidth 8 = code)
    (hinfo : e.info = info) : exec i s = .next (errorState s (encode i) code info) := by
  subst hcode hinfo
  rw [exec_eq_perform, perform_error i _ _ s e h, commitError_plain _ e _ hvalid hcheck, statusFinish_err]
  rfl

/-- An operation whose tests pass commits its effect (R102). -/
theorem exec_eq_commitSuccess {i : Instr} {s : State} (h : firstFailure (checksOf i (s.setCtrl (encode i))) = none) :
    exec i s = .next { effectOf i (s.setCtrl (encode i)) with
      status := doneStatus (effectOf i (s.setCtrl (encode i))).status, errInfo := 0 } := by
  rw [exec_eq_perform, perform_ok i _ _ s h, commitSuccess_eq, statusFinish_done]
  rfl

/-- A byte among the ones just written. -/
theorem read_writeBytes_map_range (m : Memory) (a : Nat) (f : Nat → Byte) {n k : Nat} (hk : k < n) :
    (m.writeBytes a ((List.range n).map f)).read (a + k) = f k := by
  rw [Memory.read_writeBytes, if_pos (by simpa using hk), Nat.add_sub_cancel_left]
  simp [hk]

/-! ### TOBIN -/

theorem firstFailure_tobinChecks (s : State) :
    firstFailure (tobinChecks s) =
      if s.tbWidth.toNat = 0 ∨ 16 < s.tbWidth.toNat then some (.invalidInput .tbWidth)
      else if 144 < s.tbOffset.toNat + s.tbWidth.toNat then some (.invalidInput .tbOffset)
      else if 2 ^ s.tbWidth.toNat ≤ operandValue s then some (.invalidInput .tbValue)
      else none := by
  rw [tobinChecks, firstFailure_failIf, firstFailure_failIf, firstFailure_failIf, firstFailure_nil]
  simp only [BitVec.toNat_eq]
  rfl

theorem exec_tobin_ok {s : State} (h : firstFailure (tobinChecks s) = none) :
    exec .tobin s = .next { s with
      ctrl := 0x01, status := doneStatus s.status, errInfo := 0
      symLen := BitVec.ofNat 8 (s.tbOffset.toNat + s.tbWidth.toNat), mem := (tobinEffect s).mem } :=
  exec_eq_commitSuccess h

theorem read_tobinEffect (s : State) {k : Nat} (hk : k < s.tbWidth.toNat) :
    (tobinEffect s).mem.read (0x60 + s.tbOffset.toNat + k) =
      digit ((operandValue s).testBit (s.tbWidth.toNat - 1 - k)) := by
  rw [tobinEffect_mem]
  exact read_writeBytes_map_range s.mem _ _ hk

theorem sameOutside_tobinEffect (s : State) :
    sameOutside (tobinEffect s).mem s.mem (0x60 + s.tbOffset.toNat) (0x60 + s.tbOffset.toNat + s.tbWidth.toNat) := by
  rw [tobinEffect_mem]
  exact sameOutside_writeBytes s.mem le_rfl (by simp [digits])

/-- Settles O16: the first failing test gives the error, and where none fails the digits are written. -/
theorem tobinRendersDigits : Obligations.TobinRendersDigits := by
  rintro s w off rfl rfl
  have hchecks := firstFailure_tobinChecks s
  refine ⟨fun hwidth => ?_, fun h1 h16 hoff => ?_, fun h1 h16 hoff hvalue => ?_, fun h1 h16 hoff hvalue => ?_⟩
  · rw [if_pos hwidth] at hchecks
    exact exec_eq_errorState rfl rfl hchecks rfl rfl
  · rw [if_neg (by omega), if_pos hoff] at hchecks
    exact exec_eq_errorState rfl rfl hchecks rfl rfl
  · rw [if_neg (by omega), if_neg (by omega), if_pos hvalue] at hchecks
    exact exec_eq_errorState rfl rfl hchecks rfl rfl
  · rw [if_neg (by omega), if_neg (by omega), if_neg (by omega)] at hchecks
    refine ⟨_, exec_tobin_ok hchecks, fun k hk => ?_, sameOutside_tobinEffect s⟩
    rw [read_tobinEffect s hk, digit_eq]

/-! ### PARSE -/

theorem firstFailure_parseChecks_of_length {s : State} (h : 144 < s.symLen.toNat) :
    firstFailure (parseChecks s) = some lengthError := by
  rw [parseChecks, firstFailure_failIf, if_pos h]

/-- The lowest index that holds no symbol is the one reported (R70, R105). -/
theorem firstFailure_parseChecks_of_not_symbol {s : State} {j : Nat} (hlen : s.symLen.toNat ≤ 144)
    (hj : j < s.symLen.toNat) (hbad : ¬ symbol (s.sym j)) (hgood : ∀ i, i < j → symbol (s.sym i)) :
    firstFailure (parseChecks s) = some (.malformedWire (BitVec.ofNat 8 j)) := by
  rw [parseChecks, firstFailure_failIf, if_neg (Nat.not_lt.2 hlen)]
  refine firstFailure_map_range_some _ j _ hj ?_ fun i hi => ?_
  · exact decide_eq_true ((isSymbol_eq_false_iff _).2 hbad)
  · exact decide_eq_false fun h => (isSymbol_eq_false_iff _).1 h (hgood i hi)

theorem firstFailure_parseChecks_of_symbols {s : State} (hlen : s.symLen.toNat ≤ 144)
    (hgood : ∀ j, j < s.symLen.toNat → symbol (s.sym j)) : firstFailure (parseChecks s) = none := by
  rw [parseChecks, firstFailure_failIf, if_neg (Nat.not_lt.2 hlen), firstFailure_eq_none_iff, List.forall_mem_map]
  exact fun j hj => decide_eq_false fun h => (isSymbol_eq_false_iff _).1 h (hgood j (List.mem_range.1 hj))

theorem exec_parse_ok {s : State} (h : firstFailure (parseChecks s) = none) :
    exec .parse s = .next { s with
      ctrl := 0x02, status := doneStatus s.status, errInfo := 0, frameLen := s.symLen, mem := (parseEffect s).mem } :=
  exec_eq_commitSuccess h

/-- Every bit of FRAME after PARSE: the symbol's below SYM_LEN, 0 from there on (R70). -/
theorem bit_parseEffect (s : State) {k : Nat} (hk : k < 144) :
    ((parseEffect s).mem.read (0x40 + k / 8)).getLsbD (7 - k % 8) =
      (decide (k < s.symLen.toNat) && symbolBit (s.sym k)) := by
  rw [parseEffect_mem, ← getLsbD_packedByte]
  exact congrArg (BitVec.getLsbD · _) (read_writeBytes_map_range s.mem 0x40 _ (by omega))

theorem sameOutside_parseEffect (s : State) : sameOutside (parseEffect s).mem s.mem 0x40 0x52 := by
  rw [parseEffect_mem]
  exact sameOutside_writeBytes s.mem le_rfl (by simp)

/-- Settles O17: the length, then the lowest bad symbol, and where neither fails the symbols' bits are packed. -/
theorem parsePacksSymbols : Obligations.ParsePacksSymbols := by
  rintro s n rfl
  refine ⟨fun hlen => ?_, fun j hlen hj hbad hgood => ?_, fun hlen hgood => ?_⟩
  · exact exec_eq_errorState rfl rfl (firstFailure_parseChecks_of_length hlen) rfl rfl
  · exact exec_eq_errorState rfl rfl (firstFailure_parseChecks_of_not_symbol hlen hj hbad hgood) rfl rfl
  · refine ⟨_, exec_parse_ok (firstFailure_parseChecks_of_symbols hlen hgood), fun k hk => ?_, fun k hk hcap => ?_,
      sameOutside_parseEffect s⟩
    · rw [bit_parseEffect s (by omega), decide_eq_true hk, Bool.true_and]
      rfl
    · rw [bit_parseEffect s hcap, decide_eq_false (Nat.not_lt.2 hk), Bool.false_and]

/-! ### REV -/

theorem firstFailure_revChecks (s : State) :
    firstFailure (revChecks s) =
      if 144 < s.frameLen.toNat ∨ s.frameLen.toNat % 8 ≠ 0 then some lengthError else none := by
  rw [revChecks, firstFailure_failIf, firstFailure_nil]

theorem exec_rev_ok {s : State} (hlen : s.frameLen.toNat ≤ 144) (hmod : s.frameLen.toNat % 8 = 0) :
    exec .rev s = .next { s with
      ctrl := 0x03, status := doneStatus s.status, errInfo := 0, mem := (revEffect s).mem } :=
  exec_eq_commitSuccess ((firstFailure_revChecks s).trans (if_neg (by omega)))

/-- Memory after REV: the bytes of the frame reversed, every other byte as before (R71). -/
theorem read_revEffect (s : State) (a : Nat) :
    (revEffect s).mem.read a =
      if 0x40 ≤ a ∧ a < 0x40 + s.frameLen.toNat / 8 then rev8 (s.mem.read a) else s.mem.read a := by
  rw [revEffect_mem]
  split
  next ha =>
    obtain ⟨i, rfl⟩ := Nat.exists_eq_add_of_le ha.1
    exact read_writeBytes_map_range s.mem 0x40 _ (by omega)
  next ha => exact sameOutside_writeBytes s.mem le_rfl (by simp) a ha

/-- Settles O18: the length test, and the reversal of each byte below FRAME_LEN / 8. -/
theorem revReversesEachByte : Obligations.RevReversesEachByte := by
  rintro s l rfl
  refine ⟨fun hlen => ?_, fun hlen hmod => ⟨_, exec_rev_ok hlen hmod, fun i b hi hb => ?_, fun a ha => ?_⟩⟩
  · exact exec_eq_errorState rfl rfl ((firstFailure_revChecks s).trans (if_pos hlen)) rfl rfl
  · rw [read_revEffect, if_pos (by omega), getLsbD_rev8 _ hb]
  · rw [read_revEffect, if_neg ha]

/-! ### The laws -/

/-- The second REV finds the same length and reverses the same bytes back (R72). -/
theorem read_revEffect_revEffect {s t : State} (hlen : t.frameLen = s.frameLen) (hmem : t.mem = (revEffect s).mem)
    (a : Nat) : (revEffect t).mem.read a = s.mem.read a := by
  rw [read_revEffect, hmem, read_revEffect, hlen]
  split
  · exact rev8_rev8 _
  · rfl

/-- Settles O19: the first REV keeps FRAME_LEN, so the second succeeds as well. -/
theorem revTwiceRestoresFrame : Obligations.RevTwiceRestoresFrame :=
  fun s hmod hlen => ⟨_, _, exec_rev_ok hlen hmod, exec_rev_ok hlen hmod, read_revEffect_revEffect rfl rfl, rfl, rfl,
    rfl, doneStatus_doneStatus s.status, rfl⟩

/-- Eight bits, most significant first, make the byte they expand (R32). -/
theorem toNat_frame_zero {u : State} {v : Nat} (hv : v < 2 ^ 8)
    (hbits : ∀ k, k < 8 → frameBit u k = v.testBit (7 - k)) : (u.frame 0).toNat = v := by
  refine Nat.eq_of_testBit_eq fun i => ?_
  by_cases hi : i < 8
  · have hbit := hbits (7 - i) (by omega)
    rw [frameBit, show (7 - i) / 8 = 0 by omega, show 7 - (7 - i) % 8 = i by omega,
      show 7 - (7 - i) = i by omega] at hbit
    exact hbit
  · have hpow : 2 ^ 8 ≤ 2 ^ i := Nat.pow_le_pow_right two_pos (Nat.not_lt.1 hi)
    rw [Nat.testBit_lt_two_pow ((u.frame 0).isLt.trans_le hpow), Nat.testBit_lt_two_pow (hv.trans_le hpow)]

/-- TOBIN at offset 0 leaves SYM_LEN equal to the width and a digit at every index below it (R69). -/
theorem exec_tobin_at_zero {s : State} (hoff : s.tbOffset = 0) (h1 : 1 ≤ s.tbWidth.toNat) (h16 : s.tbWidth.toNat ≤ 16)
    (hvalue : operandValue s < 2 ^ s.tbWidth.toNat) :
    ∃ t : State, exec .tobin s = .next t ∧ t.status = doneStatus s.status ∧ t.errInfo = 0 ∧ t.symLen = s.tbWidth ∧
      ∀ k, k < s.tbWidth.toNat → t.sym k = digit ((operandValue s).testBit (s.tbWidth.toNat - 1 - k)) := by
  obtain ⟨-, -, -, hok⟩ := tobinRendersDigits s _ 0 rfl (congrArg BitVec.toNat hoff)
  obtain ⟨m, hrun, hdigits, -⟩ := hok h1 h16 (by omega) hvalue
  refine ⟨_, hrun, rfl, rfl, ?_, fun k hk => (hdigits k hk).trans (digit_eq _).symm⟩
  rw [Nat.zero_add, BitVec.ofNat_toNat, BitVec.setWidth_eq]

/-- PARSE of digits packs the bits they render (R70). -/
theorem exec_parse_digits {s : State} {f : Nat → Bool} (hlen : s.symLen.toNat ≤ 144)
    (hdigits : ∀ k, k < s.symLen.toNat → s.sym k = digit (f k)) :
    ∃ t : State, exec .parse s = .next t ∧ t.status = doneStatus s.status ∧ t.errInfo = 0 ∧ t.frameLen = s.symLen ∧
      ∀ k, k < s.symLen.toNat → frameBit t k = f k := by
  obtain ⟨-, -, hok⟩ := parsePacksSymbols s _ rfl
  obtain ⟨m, hrun, hbits, -⟩ := hok hlen fun k hk => (congrArg symbol (hdigits k hk)).mpr (symbol_digit (f k))
  refine ⟨_, hrun, rfl, rfl, rfl, fun k hk => (hbits k hk).trans ?_⟩
  exact (congrArg symbolBit (hdigits k hk)).trans (symbolBit_digit (f k))

/-- Settles O20: TOBIN leaves a digit at every index below the width, and PARSE packs the bits they render. -/
theorem tobinThenParsePacksField : Obligations.TobinThenParsePacksField := by
  intro s hoff h1 h16 hvalue
  obtain ⟨t, htobin, htstatus, hterr, htlen, hdigits⟩ := exec_tobin_at_zero hoff h1 h16 hvalue
  rw [← htlen] at hdigits
  obtain ⟨u, hparse, hustatus, huerr, hulen, hbits⟩ := exec_parse_digits (by rw [htlen]; omega) hdigits
  rw [htlen] at hbits
  refine ⟨t, u, htobin, htstatus, hterr, hparse, ?_, huerr, hulen.trans htlen,
    List.map_congr_left fun k hk => hbits k (List.mem_range.1 hk), fun h8 => ?_⟩
  · rw [hustatus, htstatus, doneStatus_doneStatus]
  · rw [h8] at hvalue hbits
    exact toNat_frame_zero hvalue hbits

end Sys2Proof.BitUtility
end

section
/-! PROOFS. The statements of spec/41_codec_a.md: what ENCA, DECA, CSUMA_GEN and CSUMA_CHK do from every state (R74 to
R83), and the two laws about them (R84, R85). The tests of each operation are put beside the rule's own list of tests once,
and the bytes of an encoded frame are taken apart byte by byte. -/

namespace Sys2Proof.CodecA

open Sys2Proof.Machine Sys2Proof.Claim Sys2Proof.Scope Sys2Proof.StateFile Sys2Proof.MemoryMap Sys2Proof.BitUtility

/-! ### An error in the words of R103 -/

/-- What holds of the error of every test holds of the error that is raised. -/
theorem error_of_firstFailure {cs : List Check} {e : OpError} {P : OpError → Prop} (h : firstFailure cs = some e)
    (hall : ∀ c ∈ cs, P c.error) : P e := by
  induction cs with
  | nil => cases h
  | cons c cs ih =>
    obtain ⟨hc, hcs⟩ := List.forall_mem_cons.1 hall
    rw [firstFailure_cons] at h
    split at h
    · exact Option.some.inj h ▸ hc
    · exact ih h hcs

/-- Where all tests raise errors of one class, the detail of the first failing one tells its error (R105). -/
theorem exists_error_of_info {cs : List Check} {code : BitVec 3} {info : Byte}
    (hinfo : (firstFailure cs).map OpError.info = some info) (hcode : ∀ c ∈ cs, c.error.code = code) :
    ∃ e, firstFailure cs = some e ∧ e.code = code ∧ e.info = info := by
  obtain ⟨e, he, hei⟩ := Option.map_eq_some_iff.1 hinfo
  exact ⟨e, he, error_of_firstFailure (P := fun e => e.code = code) he hcode, hei⟩

/-- An error of CSUMA_CHK or CSUMB_CHK clears OUT_CHECK as well (R103). -/
theorem exec_eq_checkErrorState {i : Instr} {s : State} {info : Byte}
    (hvalid : clearsValid (some i) = false) (hcheck : clearsCheck (some i) = true)
    (h : firstFailure (checksOf i (s.setCtrl (encode i))) = some (.malformedWire info)) :
    exec i s = .next (checkErrorState s (encode i) info) := by
  rw [exec_eq_perform, perform_error i _ _ s _ h, commitError_check _ _ _ hvalid hcheck, statusFinish_err]
  rfl

theorem statusSetValid_false_malformed (st : Byte) :
    statusSetValid false (statusFinish 2 st) = (st &&& 0xE0) ||| 0x09 := by
  revert st; decide

/-- An error of DECA or DECB clears STATUS.VALID and OUT_CHECK as well (R103). -/
theorem exec_eq_decodeErrorState {i : Instr} {s : State} {e : OpError} {info : Byte}
    (hvalid : clearsValid (some i) = true) (hcheck : clearsCheck (some i) = true)
    (h : firstFailure (checksOf i (s.setCtrl (encode i))) = some e) (hcode : e.code = 2) (hinfo : e.info = info) :
    exec i s = .next (decodeErrorState s (encode i) info) := by
  subst hinfo
  rw [exec_eq_perform, perform_error i _ _ s e h, commitError_decode _ e _ hvalid hcheck, hcode,
    statusSetValid_false_malformed]
  rfl

/-! ### The checksum block -/

theorem frame_offset (s : State) (k i : Nat) : s.frame (k + i) = s.mem.read (0x40 + k + i) :=
  congrArg s.mem.read (Nat.add_assoc 0x40 k i).symm

theorem checksumOkA_iff (s : State) : checksumOkA s = true ↔ checksumA s := by
  simp only [checksumOkA, List.all_eq_true, List.mem_range, beq_iff_eq, frame_offset]

theorem verdict_checksumOkA (s : State) : verdict (checksumOkA s) = verdictOf (checksumA s) :=
  if_congr (checksumOkA_iff s) rfl rfl

theorem frameLen_toNat_eq_iff (s : State) : s.frameLen.toNat = Config.lA ↔ s.frameLen = 136 :=
  BitVec.toNat_inj (y := (136 : Byte))

theorem firstFailure_lengthChecksA (s : State) :
    firstFailure (lengthChecksA s) = if s.frameLen = 136 then none else some lengthError := by
  rw [lengthChecksA, firstFailure_failIf, firstFailure_nil, ite_not]
  exact if_congr (frameLen_toNat_eq_iff s) rfl rfl

theorem exec_csumaGen_ok {s : State} (h : s.frameLen = 136) :
    exec .csumaGen s = .next { s with
      ctrl := 0x06, status := doneStatus s.status, errInfo := 0, mem := (csumaGenEffect s).mem } :=
  exec_eq_commitSuccess ((firstFailure_lengthChecksA (s.setCtrl 0x06)).trans (if_pos h))

theorem read_csumaGenEffect (s : State) {i : Nat} (hi : i < 6) :
    (csumaGenEffect s).mem.read (0x4B + i) = 0xFF ^^^ s.mem.read (0x45 + i) := by
  rw [csumaGenEffect_mem, ← frame_offset s 5 i]
  exact read_writeBytes_map_range s.mem 0x4B _ hi

/-- Settles O23: the length test, and the six bytes written. -/
theorem csumaGenWritesComplements : Obligations.CsumaGenWritesComplements := by
  refine fun s => ⟨fun hlen => ⟨_, exec_csumaGen_ok hlen, fun i hi => read_csumaGenEffect s hi, ?_⟩, fun hlen => ?_⟩
  · rw [csumaGenEffect_mem]
    exact sameOutside_writeBytes s.mem le_rfl le_rfl
  · exact exec_eq_errorState rfl rfl ((firstFailure_lengthChecksA _).trans (if_neg hlen)) rfl rfl

theorem exec_csumaChk_ok {s : State} (h : s.frameLen = 136) :
    exec .csumaChk s = .next { s with
      ctrl := 0x07, status := doneStatus s.status, errInfo := 0, outCheck := verdictOf (checksumA s) } := by
  rw [← verdict_checksumOkA]
  exact exec_eq_commitSuccess ((firstFailure_lengthChecksA (s.setCtrl 0x07)).trans (if_pos h))

/-- Settles O24: the length test, and the verdict in its two cases. -/
theorem csumaChkComparesComplements : Obligations.CsumaChkComparesComplements := by
  refine fun s => ⟨fun hlen hok => ?_, fun hlen hbad => ?_, fun hlen => ?_⟩
  · rw [exec_csumaChk_ok hlen, verdictOf, if_pos hok]
  · rw [exec_csumaChk_ok hlen, verdictOf, if_neg hbad]
  · exact exec_eq_checkErrorState rfl rfl ((firstFailure_lengthChecksA _).trans (if_neg hlen))

/-! ### ENCA -/

/-- ENCA's tests report the field R74 names (the length self-check never fails). -/
theorem info_encaChecks (s : State) :
    (firstFailure (encaChecks Config.params s)).map OpError.info = inputErrorA s := by
  simp only [encaChecks_lengthCheck, inputChecksA, firstFailure_failIf, firstFailure_nil,
    apply_ite (Option.map OpError.info), Option.map_some, Option.map_none, not_or]
  rfl

theorem firstFailure_encaChecks_of_legal {s : State} (h : inputErrorA s = none) :
    firstFailure (encaChecks Config.params s) = none :=
  Option.map_eq_none_iff.1 ((info_encaChecks s).trans h)

theorem code_inputChecksA (s : State) : ∀ c ∈ inputChecksA s, c.error.code = 1 := by
  simp [inputChecksA, failIf, OpError.code]

/-- The error ENCA raises where an input is illegal (R74). -/
theorem error_encaChecks_of_illegal {s : State} {f : Byte} (h : inputErrorA s = some f) :
    ∃ e, firstFailure (encaChecks Config.params s) = some e ∧ e.code = 1 ∧ e.info = f := by
  rw [← info_encaChecks, encaChecks_lengthCheck] at h
  rw [encaChecks_lengthCheck]
  exact exists_error_of_info h (code_inputChecksA s)

/-- Either form of ENCA with an illegal input (R74, R103). -/
theorem exec_enca_error {i : Instr} (hi : i = .enca ∨ i = .encaRaw) {s : State} {f : Byte} (h : inputErrorA s = some f) :
    exec i s = .next (errorState s (encode i) 1 f) := by
  obtain ⟨e, hfail, hcode, hinfo⟩ := error_encaChecks_of_illegal (s := s.setCtrl (encode i)) h
  have hcode8 : e.code.setWidth 8 = (1 : Byte) := congrArg (BitVec.setWidth 8) hcode
  rcases hi with rfl | rfl <;> exact exec_eq_errorState rfl rfl hfail hcode8 hinfo

theorem codeOf_modeTableA : ∀ m : Byte, codeOf modeTableA m = modeCodeA m := by decide

theorem assembleA_eq_frameA (s : State) : assembleA Config.params s = frameA s := by
  rw [assembleA, bodyA, codeOf_modeTableA]
  rfl

theorem length_frameA (s : State) : (frameA s).length = 17 := rfl

/-- The bytes ENCA leaves in FRAME, in the order CTRL.RAW selects (R79). -/
theorem encaEffect_mem_frameA (s : State) :
    (encaEffect Config.params s).mem = s.mem.writeBytes 0x40 (transportOrder s.ctrl (frameA s) ++ [0x00]) := by
  rw [encaEffect_mem, assembleA_eq_frameA]

theorem read_encaEffect (s : State) {i : Nat} (hi : i < 17) :
    (encaEffect Config.params s).mem.read (0x40 + i) = (transportOrder s.ctrl (frameA s)).getD i 0 := by
  have hlen : (transportOrder s.ctrl (frameA s)).length = 17 := length_transportOrder _ _
  rw [encaEffect_mem_frameA, Memory.read_writeBytes, if_pos (by simp [hlen]; omega), Nat.add_sub_cancel_left,
    List.getD_append _ _ _ _ (by omega)]

theorem read_encaEffect_last (s : State) : (encaEffect Config.params s).mem.read 0x51 = 0x00 := by
  have hlen : (transportOrder s.ctrl (frameA s)).length = 17 := length_transportOrder _ _
  rw [encaEffect_mem_frameA, Memory.read_writeBytes, if_pos (by simp [hlen]),
    List.getD_append_right _ _ _ _ (by omega), hlen]
  rfl

theorem sameOutside_encaEffect (s : State) : sameOutside (encaEffect Config.params s).mem s.mem 0x40 0x52 := by
  rw [encaEffect_mem_frameA]
  exact sameOutside_writeBytes s.mem le_rfl (by simp [length_frameA])

theorem exec_encaRaw_ok {s : State} (h : inputErrorA s = none) :
    exec .encaRaw s = .next { s with
      ctrl := 0x14, status := doneStatus s.status, errInfo := 0, frameLen := 136
      mem := (encaEffect Config.params (s.setCtrl 0x14)).mem } :=
  exec_eq_commitSuccess (firstFailure_encaChecks_of_legal (s := s.setCtrl 0x14) h)

theorem exec_enca_ok {s : State} (h : inputErrorA s = none) :
    exec .enca s = .next { s with
      ctrl := 0x04, status := doneStatus s.status, errInfo := 0, frameLen := 136
      mem := (encaEffect Config.params (s.setCtrl 0x04)).mem } :=
  exec_eq_commitSuccess (firstFailure_encaChecks_of_legal (s := s.setCtrl 0x04) h)

theorem transportOrder_raw (fr : List Byte) : transportOrder 0x14 fr = fr :=
  if_pos (by decide)

theorem transportOrder_wire (fr : List Byte) : transportOrder 0x04 fr = fr.map rev8 :=
  if_neg (by decide)

/-- FRAME after ENCA.raw: the frame in layout order (R79). -/
theorem read_encaEffect_raw (s : State) {i : Nat} (hi : i < 17) :
    (encaEffect Config.params (s.setCtrl 0x14)).mem.read (0x40 + i) = (frameA s).getD i 0 := by
  rw [read_encaEffect _ hi, State.setCtrl_ctrl, transportOrder_raw]
  rfl

/-- FRAME after ENCA: the frame in wire order (R68, R79). -/
theorem read_encaEffect_wire (s : State) {i : Nat} (hi : i < 17) :
    (encaEffect Config.params (s.setCtrl 0x04)).mem.read (0x40 + i) = rev8 ((frameA s).getD i 0) := by
  rw [read_encaEffect _ hi, State.setCtrl_ctrl, transportOrder_wire]
  exact List.getD_map (frameA s) (0 : Byte) rev8

/-- Settles O21: with legal inputs the frame is written in the order of the form, and an illegal input is reported. -/
theorem encaWritesVariantAFrame : Obligations.EncaWritesVariantAFrame :=
  fun s => ⟨fun h =>
    ⟨⟨_, exec_encaRaw_ok h, fun _ => read_encaEffect_raw s, read_encaEffect_last _, sameOutside_encaEffect _⟩,
      ⟨_, exec_enca_ok h, fun _ => read_encaEffect_wire s, read_encaEffect_last _, sameOutside_encaEffect _⟩⟩,
    fun _ h => ⟨exec_enca_error (.inr rfl) h, exec_enca_error (.inl rfl) h⟩⟩

/-! ### DECA -/

theorem mem_modeTableA_iff : ∀ c : Byte, c ∈ modeTableA ↔ c ∈ ([0x0, 0x1, 0x2, 0x3, 0x5] : List Byte) := by decide

theorem slice_3_3_ne_zero_iff : ∀ b : Byte, slice b 3 3 ≠ 0 ↔ b.getLsbD 3 = true := by decide

theorem slice_0_0_ne_one_iff : ∀ b : Byte, slice b 0 0 ≠ 1 ↔ b.getLsbD 0 = false := by decide

/-- DECA's tests report the byte R78 names. -/
theorem info_structureChecksA (s : State) :
    (firstFailure (structureChecksA Config.params s)).map OpError.info = structureErrorA s := by
  simp only [structureChecksA, firstFailure_failIf, firstFailure_nil, apply_ite (Option.map OpError.info),
    Option.map_some, Option.map_none, ne_eq (s.frameLen.toNat), frameLen_toNat_eq_iff, mem_modeTableA_iff,
    slice_3_3_ne_zero_iff, slice_0_0_ne_one_iff, slice_3_0, slice_7_4, slice_7_2]
  rfl

theorem firstFailure_structureChecksA_of_right {s : State} (h : structureErrorA s = none) :
    firstFailure (structureChecksA Config.params s) = none :=
  Option.map_eq_none_iff.1 ((info_structureChecksA s).trans h)

theorem code_structureChecksA (s : State) : ∀ c ∈ structureChecksA Config.params s, c.error.code = 2 := by
  simp [structureChecksA, failIf, OpError.code]

theorem exec_deca_error {s : State} {info : Byte} (h : structureErrorA s = some info) :
    exec .deca s = .next (decodeErrorState s 0x05 info) := by
  obtain ⟨e, hfail, hcode, hinfo⟩ :=
    exists_error_of_info ((info_structureChecksA (s.setCtrl 0x05)).trans h) (code_structureChecksA _)
  exact exec_eq_decodeErrorState rfl rfl hfail hcode hinfo

/-- A code of the table is that of the token the rule names; the structural check lets no other code through (R55). -/
theorem tokenOf_modeTableA : ∀ c ∈ modeTableA, tokenOf modeTableA c = modeTokenA c := by decide

theorem doneStatus_setValid (st : Byte) : doneStatus (statusSetValid true st) = (st &&& 0xE0) ||| 0x03 := by
  revert st; decide

/-- The fields of a right frame in the words of R80. -/
theorem fieldsA_eq_decoded {s : State} (h : structureErrorA s = none) : fieldsA s = (decodedA s).decoded := by
  obtain ⟨hmode, -⟩ := codes_of_structureChecksA (firstFailure_structureChecksA_of_right h)
  rw [fieldsA, tokenOf_modeTableA _ hmode, slice_3_0, slice_7_4, slice_7_4, slice_2_1, slice_1_0]
  rfl

theorem exec_deca_ok {s : State} (h : structureErrorA s = none) : exec .deca s = .next (decodedA s) := by
  have hpass := firstFailure_structureChecksA_of_right (s := s.setCtrl (encode .deca)) h
  have hstatus : doneStatus (effectOf .deca (s.setCtrl (encode .deca))).status = (s.status &&& 0xE0) ||| 0x03 :=
    doneStatus_setValid s.status
  rw [exec_eq_commitSuccess (i := .deca) hpass, hstatus, effectOf, decaEffect,
    fieldsA_eq_decoded (s := s.setCtrl (encode .deca)) h, verdict_checksumOkA]
  rfl

/-- Settles O22: the first failing test gives the error, and where none fails the fields are delivered. -/
theorem decaDecodesVariantAFrame : Obligations.DecaDecodesVariantAFrame :=
  fun _ => ⟨exec_deca_ok, fun _ => exec_deca_error⟩

/-! ### The round trip -/

/-- The input domains of R74. -/
theorem domains_of_legal {s : State} (h : inputErrorA s = none) :
    (s.inPower = 0 ∨ s.inPower = 1) ∧ s.inMode.toNat ≤ 4 ∧ (16 ≤ s.inTemp.toNat ∧ s.inTemp.toNat ≤ 31) ∧
      (1 ≤ s.inFan.toNat ∧ s.inFan.toNat ≤ 4) ∧
      (s.inVane = 0 ∨ s.inVane = 1 ∨ s.inVane = 2 ∨ s.inVane = 3 ∨ s.inVane = 6) := by
  unfold inputErrorA at h
  split_ifs at h with hpower hmode htemp hfan hvane
  exact ⟨by tauto, by omega, by omega, by omega, by tauto⟩

/-- Byte 5 of the frame (R76). -/
def powerByte (p : Byte) : Byte := if p = 1 then 0x40 else Config.params.powerAOff

/-- Byte 6 of the frame (R76). -/
def tempModeByte (t m : Byte) : Byte := ((t - 16) <<< 4) ||| modeCodeA m

/-- Byte 7 of the frame (R76). -/
def vaneFanByte (v f : Byte) : Byte := ((if v = 6 then 12 else v) <<< 4) ||| ((f - 1) <<< 1) ||| 0x01

/-- The power byte is one of the two patterns, and the two differ (R7), so it gives the power back. -/
theorem powerByte_decodes {p : Byte} (hp : p = 0 ∨ p = 1) :
    ¬ (powerByte p ≠ 0x40 ∧ powerByte p ≠ Config.params.powerAOff) ∧ (if powerByte p = 0x40 then 1 else 0) = p := by
  have hoff : Config.params.powerAOff ≠ Config.powerAOn := parametersAreLegal.1
  rcases hp with rfl | rfl
  · exact ⟨fun hneither => hneither.2 rfl, if_neg hoff⟩
  · exact ⟨fun hneither => hneither.1 rfl, if_pos rfl⟩

theorem tempModeByte_decodes : ∀ m : Byte, m.toNat ≤ 4 → ∀ t : Byte, 16 ≤ t.toNat ∧ t.toNat ≤ 31 →
    tempModeByte t m &&& 0x0F ∈ ([0x0, 0x1, 0x2, 0x3, 0x5] : List Byte) ∧
      modeTokenA (tempModeByte t m &&& 0x0F) = m ∧ (16 : Byte) + (tempModeByte t m >>> 4) = t := by
  decide

theorem vaneFanByte_decodes : ∀ f : Byte, 1 ≤ f.toNat ∧ f.toNat ≤ 4 →
    ∀ v : Byte, v = 0 ∨ v = 1 ∨ v = 2 ∨ v = 3 ∨ v = 6 →
    vaneFanByte v f >>> 4 ∈ ([0, 1, 2, 3, 12] : List Byte) ∧
      ¬ ((vaneFanByte v f).getLsbD 3 = true ∨ (vaneFanByte v f).getLsbD 0 = false) ∧
      ((vaneFanByte v f >>> 1) &&& 0x03) + 1 = f ∧
      (if vaneFanByte v f >>> 4 = (12 : Byte) then (6 : Byte) else vaneFanByte v f >>> 4) = v := by
  decide

/-- FRAME holds the variant A frame of the command in the input registers of `s`, in layout order. -/
def HoldsFrameA (s t : State) : Prop :=
  t.frameLen = 136 ∧ ∀ i, i < 17 → t.mem.read (0x40 + i) = (frameA s).getD i 0

section RoundTrip

variable {s t : State}

/-- The bytes of the encoded frame that DECA takes apart. -/
theorem bytes_of_holdsFrameA (h : HoldsFrameA s t) :
    t.mem.read (0x40 + 5) = powerByte s.inPower ∧ t.mem.read (0x40 + 6) = tempModeByte s.inTemp s.inMode ∧
      t.mem.read (0x40 + 7) = vaneFanByte s.inVane s.inFan ∧ t.mem.read (0x40 + 8) = 0x04 ∧
      t.mem.read (0x40 + 9) = 0x00 ∧ t.mem.read (0x40 + 10) = 0x00 := by
  obtain ⟨-, hread⟩ := h
  exact ⟨hread 5 (by omega), hread 6 (by omega), hread 7 (by omega), hread 8 (by omega), hread 9 (by omega),
    hread 10 (by omega)⟩

/-- The encoded frame passes the structural check (R78). -/
theorem structureErrorA_of_holdsFrameA (hlegal : inputErrorA s = none) (h : HoldsFrameA s t) :
    structureErrorA t = none := by
  obtain ⟨hpower, hmode, htemp, hfan, hvane⟩ := domains_of_legal hlegal
  obtain ⟨hpower', -⟩ := powerByte_decodes hpower
  obtain ⟨hmode', -⟩ := tempModeByte_decodes _ hmode _ htemp
  obtain ⟨hvane', hfixed, -⟩ := vaneFanByte_decodes _ hfan _ hvane
  obtain ⟨h5, h6, h7, h8, -, -⟩ := bytes_of_holdsFrameA h
  obtain ⟨hlen, hread⟩ := h
  have h0 : t.mem.read (0x40 + 0) = Config.params.headerA 0 := hread 0 (by omega)
  have h1 : t.mem.read (0x40 + 1) = Config.params.headerA 1 := hread 1 (by omega)
  have h2 : t.mem.read (0x40 + 2) = Config.params.headerA 2 := hread 2 (by omega)
  have h3 : t.mem.read (0x40 + 3) = Config.params.headerA 3 := hread 3 (by omega)
  have h4 : t.mem.read (0x40 + 4) = Config.params.headerA 4 := hread 4 (by omega)
  have htimer : ¬ t.mem.read (0x40 + 8) >>> 2 ≠ 0b000001 := by rw [h8]; decide
  rw [← h5] at hpower'
  rw [← h6] at hmode'
  rw [← h7] at hvane' hfixed
  unfold structureErrorA
  dsimp only
  rw [if_neg (not_not.2 hlen), if_neg (not_not.2 h0), if_neg (not_not.2 h1), if_neg (not_not.2 h2),
    if_neg (not_not.2 h3), if_neg (not_not.2 h4), if_neg hpower', if_neg (not_not.2 hmode'), if_neg (not_not.2 hvane'),
    if_neg hfixed, if_neg htimer]

/-- Bytes 11 to 16 of the encoded frame are the complements of bytes 5 to 10 (R77). -/
theorem checksumA_of_holdsFrameA (h : HoldsFrameA s t) : checksumA t := by
  intro i hi
  have hsum := h.2 (11 + i) (by omega)
  have hbody := h.2 (5 + i) (by omega)
  rw [← Nat.add_assoc] at hsum hbody
  rw [hsum, hbody]
  interval_cases i <;> rfl

theorem status_of_decode (st : Byte) :
    ((st &&& 0xE0) ||| 0x03).getLsbD 1 = true ∧ ((st &&& 0xE0) ||| 0x03).extractLsb' 2 3 = 0 := by
  revert st; decide

/-- The decode of the encoded frame gives each field back (R84). -/
theorem roundTripA_decodedA (hlegal : inputErrorA s = none) (h : HoldsFrameA s t) : roundTripA s (decodedA t) := by
  obtain ⟨hpower, hmode, htemp, hfan, hvane⟩ := domains_of_legal hlegal
  obtain ⟨-, hpower'⟩ := powerByte_decodes hpower
  obtain ⟨-, hmode', htemp'⟩ := tempModeByte_decodes _ hmode _ htemp
  obtain ⟨-, -, hfan', hvane'⟩ := vaneFanByte_decodes _ hfan _ hvane
  obtain ⟨hvalid, herr⟩ := status_of_decode t.status
  have hcheck : verdictOf (checksumA t) = 1 := if_pos (checksumA_of_holdsFrameA h)
  obtain ⟨h5, h6, h7, h8, h9, h10⟩ := bytes_of_holdsFrameA h
  have htimer : t.mem.read (0x40 + 8) &&& 0x03 = 0 := by rw [h8]; decide
  rw [← h5] at hpower'
  rw [← h6] at hmode' htemp'
  rw [← h7] at hfan' hvane'
  exact ⟨rfl, hpower', hmode', htemp', hfan', hvane', htimer, h9, h10, rfl, rfl, hcheck, hvalid, herr⟩

/-- DECA of the encoded frame. -/
theorem exec_deca_of_holdsFrameA (hlegal : inputErrorA s = none) (h : HoldsFrameA s t) :
    ∃ u : State, exec .deca t = .next u ∧ roundTripA s u :=
  ⟨_, exec_deca_ok (structureErrorA_of_holdsFrameA hlegal h), roundTripA_decodedA hlegal h⟩

/-- REV of the frame in wire order leaves it in layout order. -/
theorem exec_rev_wire_frame (hlen : t.frameLen = 136)
    (hread : ∀ i, i < 17 → t.mem.read (0x40 + i) = rev8 ((frameA s).getD i 0)) :
    ∃ r : State, exec .rev t = .next r ∧ HoldsFrameA s r := by
  have hbits : t.frameLen.toNat = 136 := (frameLen_toNat_eq_iff t).2 hlen
  refine ⟨_, exec_rev_ok (by omega) (by omega), hlen, fun i hi => ?_⟩
  rw [read_revEffect, if_pos (by omega), hread i hi, rev8_rev8]

theorem exec_encaRaw_holdsFrameA (hlegal : inputErrorA s = none) :
    ∃ t : State, exec .encaRaw s = .next t ∧ HoldsFrameA s t := by
  obtain ⟨⟨m, hrun, hread, -⟩, -⟩ := (encaWritesVariantAFrame s).1 hlegal
  exact ⟨_, hrun, rfl, hread⟩

theorem exec_enca_rev_holdsFrameA (hlegal : inputErrorA s = none) :
    ∃ t r : State, exec .enca s = .next t ∧ exec .rev t = .next r ∧ HoldsFrameA s r := by
  obtain ⟨-, m, hrun, hread, -⟩ := (encaWritesVariantAFrame s).1 hlegal
  obtain ⟨t, henca, hlen, hwire⟩ : ∃ t : State, exec .enca s = .next t ∧ t.frameLen = 136 ∧
      ∀ i, i < 17 → t.mem.read (0x40 + i) = rev8 ((frameA s).getD i 0) := ⟨_, hrun, rfl, hread⟩
  obtain ⟨r, hrev, hframe⟩ := exec_rev_wire_frame hlen hwire
  exact ⟨t, r, henca, hrev, hframe⟩

end RoundTrip

/-- Settles O25: in layout order FRAME holds the frame when DECA runs; in wire order REV restores it first. -/
theorem variantARoundTrip : Obligations.VariantARoundTrip := by
  intro s hlegal
  refine ⟨?_, ?_⟩
  · obtain ⟨t, henca, hframe⟩ := exec_encaRaw_holdsFrameA hlegal
    obtain ⟨u, hdeca, hround⟩ := exec_deca_of_holdsFrameA hlegal hframe
    exact ⟨t, u, henca, hdeca, hround⟩
  · obtain ⟨t, r, henca, hrev, hframe⟩ := exec_enca_rev_holdsFrameA hlegal
    obtain ⟨u, hdeca, hround⟩ := exec_deca_of_holdsFrameA hlegal hframe
    exact ⟨t, r, u, henca, hrev, hdeca, hround⟩

/-! ### A flipped checksum bit -/

section BitFlip

variable {s t : State}

theorem structureErrorA_congr (hlen : t.frameLen = s.frameLen) (h : sameFrame t s 0 11) :
    structureErrorA t = structureErrorA s := by
  simp only [structureErrorA, hlen, h 0, h 1, h 2, h 3, h 4, h 5, h 6, h 7, h 8, Nat.zero_le, Nat.reduceLT]

theorem structureErrorA_of_outCheck (hrun : exec .deca s = .next t) (hcheck : t.outCheck = 1) :
    structureErrorA s = none := by
  rcases herr : structureErrorA s with _ | info
  · rfl
  · rw [exec_deca_error herr] at hrun
    cases hrun
    cases hcheck

theorem status_decode_again (st : Byte) :
    (((st &&& 0xE0) ||| 0x03) &&& 0xE0) ||| 0x03 = (st &&& 0xE0) ||| 0x03 := by
  revert st; decide

theorem xor_bit_ne (x : Byte) {b : Nat} (hb : b < 8) : x ^^^ ((1 : Byte) <<< b) ≠ x := by
  intro h
  have hbit := congrArg (BitVec.getLsbD · b) h
  simp [hb] at hbit

theorem read_flipFrameBit (s : State) (i b a : Nat) :
    (flipFrameBit s i b).mem.read a =
      if a = 0x40 + i then s.mem.read (0x40 + i) ^^^ ((1 : Byte) <<< b) else s.mem.read a :=
  Memory.read_write _ _ _ _

/-- A bit of the checksum block is none of the bytes before it. -/
theorem sameFrame_flipFrameBit (s : State) {i : Nat} (b : Nat) (hi : 11 ≤ i) :
    sameFrame (flipFrameBit s i b) s 0 11 := by
  intro k _ hk
  rw [read_flipFrameBit, if_neg (by omega)]

/-- The structural check reads no byte of the checksum block (R78). -/
theorem structureErrorA_flipFrameBit (s : State) {i : Nat} (b : Nat) (hi : 11 ≤ i) :
    structureErrorA (flipFrameBit s i b) = structureErrorA s :=
  structureErrorA_congr rfl (sameFrame_flipFrameBit s b hi)

/-- One flipped bit of the checksum block makes that byte differ from its complement (R77). -/
theorem not_checksumA_flipFrameBit {i b : Nat} (h : checksumA s) (hlo : 11 ≤ i) (hhi : i ≤ 16) (hb : b < 8) :
    ¬ checksumA (flipFrameBit s i b) := by
  intro hflip
  obtain ⟨k, rfl⟩ := Nat.exists_eq_add_of_le hlo
  have hk := hflip k (by omega)
  rw [read_flipFrameBit, if_pos (by omega), read_flipFrameBit, if_neg (by omega), ← h k (by omega),
    ← Nat.add_assoc] at hk
  exact xor_bit_ne _ hb hk

/-- What a decode writes, as one update. -/
theorem decodedA_eq_setDecoded (s : State) :
    decodedA s = State.setDecoded { s with
      ctrl := 0x05, status := (s.status &&& 0xE0) ||| 0x03, errInfo := 0, outCheck := verdictOf (checksumA s) }
      (decodedA s).decoded :=
  rfl

theorem decoded_decodedA_congr (h : sameFrame t s 0 11) : (decodedA t).decoded = (decodedA s).decoded := by
  simp only [State.decoded, decodedA, h 5, h 6, h 7, h 8, h 9, h 10, Nat.zero_le, Nat.reduceLT]

/-- A decode made again with the checksum block changed delivers the same fields and a verdict of its own. -/
theorem decodedA_flipFrameBit (s : State) {i : Nat} (b : Nat) (hi : 11 ≤ i) :
    decodedA (flipFrameBit (decodedA s) i b) =
      { flipFrameBit (decodedA s) i b with outCheck := verdictOf (checksumA (flipFrameBit (decodedA s) i b)) } := by
  have hfields : (decodedA (flipFrameBit (decodedA s) i b)).decoded = (decodedA s).decoded :=
    decoded_decodedA_congr (sameFrame_flipFrameBit (decodedA s) b hi)
  have hstatus : ((flipFrameBit (decodedA s) i b).status &&& 0xE0) ||| 0x03 = (decodedA s).status :=
    status_decode_again s.status
  rw [decodedA_eq_setDecoded (flipFrameBit (decodedA s) i b), hfields, hstatus]
  rfl

end BitFlip

/-- Settles O26: the structural check and the fields read no byte of the checksum block, and the flipped byte is no
longer the complement. -/
theorem variantAChecksumBitFlipIsReported : Obligations.VariantAChecksumBitFlipIsReported := by
  intro s t i b hrun hcheck hlo hhi hb
  have hright := structureErrorA_of_outCheck hrun hcheck
  obtain rfl : decodedA s = t := by simpa [exec_deca_ok hright] using hrun
  have hok : checksumA s := by
    by_contra hbad
    rw [decodedA_eq_setDecoded, State.setDecoded_outCheck, verdictOf, if_neg hbad] at hcheck
    cases hcheck
  have hright' : structureErrorA (flipFrameBit (decodedA s) i b) = none :=
    (structureErrorA_flipFrameBit (decodedA s) b hlo).trans hright
  have hbad : ¬ checksumA (flipFrameBit (decodedA s) i b) :=
    not_checksumA_flipFrameBit (s := decodedA s) hok hlo hhi hb
  rw [exec_deca_ok hright', decodedA_flipFrameBit s b hlo, verdictOf, if_neg hbad]

end Sys2Proof.CodecA
end

section
/-! PROOFS. The statements of spec/42_codec_b.md: what ENCB, DECB, CSUMB_GEN and CSUMB_CHK do from every state (R87 to
R96), and the three laws about them (R97 to R99). The checksum is a sum, so one changed byte changes it; the bits that R98
flips are told apart from the bits that DECB reads. -/

namespace Sys2Proof.CodecB

open Sys2Proof.Machine Sys2Proof.Claim Sys2Proof.Scope Sys2Proof.StateFile Sys2Proof.MemoryMap Sys2Proof.BitUtility
  Sys2Proof.CodecA

/-! ### The checksum byte -/

theorem checksumOkB_iff (s : State) : checksumOkB s = true ↔ checksumB s :=
  beq_iff_eq

theorem verdict_checksumOkB (s : State) : verdict (checksumOkB s) = verdictOf (checksumB s) :=
  if_congr (checksumOkB_iff s) rfl rfl

theorem frameLen_toNat_eq_lB_iff (s : State) : s.frameLen.toNat = Config.lB ↔ s.frameLen = 144 :=
  BitVec.toNat_inj (y := (144 : Byte))

theorem firstFailure_lengthChecksB (s : State) :
    firstFailure (lengthChecksB s) = if s.frameLen = 144 then none else some lengthError := by
  rw [lengthChecksB, firstFailure_failIf, firstFailure_nil, ite_not]
  exact if_congr (frameLen_toNat_eq_lB_iff s) rfl rfl

theorem exec_csumbGen_ok {s : State} (h : s.frameLen = 144) :
    exec .csumbGen s = .next { s with
      ctrl := 0x0A, status := doneStatus s.status, errInfo := 0, mem := (csumbGenEffect s).mem } :=
  exec_eq_commitSuccess ((firstFailure_lengthChecksB (s.setCtrl 0x0A)).trans (if_pos h))

theorem read_csumbGenEffect (s : State) :
    (csumbGenEffect s).mem.read 0x51 = sumMod256 ((List.range 17).map fun i => s.mem.read (0x40 + i)) := by
  rw [csumbGenEffect_mem, Memory.read_writeBytes, if_pos ⟨le_rfl, Nat.lt_succ_self _⟩]
  rfl

/-- Settles O29: the length test, and the one byte written. -/
theorem csumbGenWritesSum : Obligations.CsumbGenWritesSum := by
  refine fun s => ⟨fun hlen => ⟨_, exec_csumbGen_ok hlen, read_csumbGenEffect s, ?_⟩, fun hlen => ?_⟩
  · rw [csumbGenEffect_mem]
    exact sameOutside_writeBytes s.mem le_rfl le_rfl
  · exact exec_eq_errorState rfl rfl ((firstFailure_lengthChecksB _).trans (if_neg hlen)) rfl rfl

theorem exec_csumbChk_ok {s : State} (h : s.frameLen = 144) :
    exec .csumbChk s = .next { s with
      ctrl := 0x0B, status := doneStatus s.status, errInfo := 0, outCheck := verdictOf (checksumB s) } := by
  rw [← verdict_checksumOkB]
  exact exec_eq_commitSuccess ((firstFailure_lengthChecksB (s.setCtrl 0x0B)).trans (if_pos h))

/-- Settles O30: the length test, and the verdict in its two cases. -/
theorem csumbChkComparesSum : Obligations.CsumbChkComparesSum := by
  refine fun s => ⟨fun hlen hok => ?_, fun hlen hbad => ?_, fun hlen => ?_⟩
  · rw [exec_csumbChk_ok hlen, verdictOf, if_pos hok]
  · rw [exec_csumbChk_ok hlen, verdictOf, if_neg hbad]
  · exact exec_eq_checkErrorState rfl rfl ((firstFailure_lengthChecksB _).trans (if_neg hlen))

/-! ### ENCB -/

theorem toNat_lt_one_iff (b : Byte) : b.toNat < 1 ↔ b = 0 := by
  rw [Nat.lt_one_iff, ← BitVec.toNat_inj]
  rfl

/-- ENCB's tests report the field R87 names (the length self-check never fails). -/
theorem info_encbChecks (s : State) :
    (firstFailure (encbChecks Config.params s)).map OpError.info = inputErrorB s := by
  simp only [encbChecks_lengthCheck, inputChecksB, firstFailure_failIf, firstFailure_nil,
    apply_ite (Option.map OpError.info), Option.map_some, Option.map_none, not_or, toNat_lt_one_iff]
  rfl

theorem firstFailure_encbChecks_of_legal {s : State} (h : inputErrorB s = none) :
    firstFailure (encbChecks Config.params s) = none :=
  Option.map_eq_none_iff.1 ((info_encbChecks s).trans h)

theorem code_inputChecksB (s : State) : ∀ c ∈ inputChecksB s, c.error.code = 1 := by
  simp [inputChecksB, failIf, OpError.code]

/-- The error ENCB raises where an input is illegal (R87). -/
theorem error_encbChecks_of_illegal {s : State} {f : Byte} (h : inputErrorB s = some f) :
    ∃ e, firstFailure (encbChecks Config.params s) = some e ∧ e.code = 1 ∧ e.info = f := by
  rw [← info_encbChecks, encbChecks_lengthCheck] at h
  rw [encbChecks_lengthCheck]
  exact exists_error_of_info h (code_inputChecksB s)

/-- Either form of ENCB with an illegal input (R87, R103). -/
theorem exec_encb_error {i : Instr} (hi : i = .encb ∨ i = .encbRaw) {s : State} {f : Byte}
    (h : inputErrorB s = some f) : exec i s = .next (errorState s (encode i) 1 f) := by
  obtain ⟨e, hfail, hcode, hinfo⟩ := error_encbChecks_of_illegal (s := s.setCtrl (encode i)) h
  have hcode8 : e.code.setWidth 8 = (1 : Byte) := congrArg (BitVec.setWidth 8) hcode
  rcases hi with rfl | rfl <;> exact exec_eq_errorState rfl rfl hfail hcode8 hinfo

/-- Either form of ENCB with legal inputs (R92, R102). -/
theorem exec_encb_ok {i : Instr} (hi : i = .encb ∨ i = .encbRaw) {s : State} (h : inputErrorB s = none) :
    exec i s = .next { s with
      ctrl := encode i, status := doneStatus s.status, errInfo := 0, frameLen := 144
      mem := (encbEffect Config.params (s.setCtrl (encode i))).mem } := by
  have hpass := firstFailure_encbChecks_of_legal (s := s.setCtrl (encode i)) h
  rcases hi with rfl | rfl <;> exact exec_eq_commitSuccess hpass

/-- The input domains of R87. -/
theorem domains_of_legalB {s : State} (h : inputErrorB s = none) :
    (s.inPower = 0 ∨ s.inPower = 1) ∧ s.inMode.toNat ≤ 4 ∧ (16 ≤ s.inTemp.toNat ∧ s.inTemp.toNat ≤ 31) ∧
      s.inFan.toNat ≤ 5 ∧ (1 ≤ s.inVane.toNat ∧ s.inVane.toNat ≤ 7) ∧ (s.inIsee = 0 ∨ s.inIsee = 1) ∧
      (s.inEcono = 0 ∨ s.inEcono = 1) := by
  unfold inputErrorB at h
  split_ifs at h with hpower hmode htemp hfan hvane hisee hecono
  have hvane0 := mt (toNat_lt_one_iff s.inVane).1 (mt Or.inl hvane)
  exact ⟨by tauto, by omega, by omega, by omega, by omega, by tauto, by tauto⟩

theorem codeOf_modeTableB6 : ∀ m : Byte, m.toNat ≤ 4 → codeOf modeTableB6 m = modeCodeB6 m := by decide

theorem codeOf_modeTableB8 : ∀ m : Byte, codeOf modeTableB8 m = modeCodeB8 m := by decide

theorem assembleB_eq_frameB {s : State} (h : inputErrorB s = none) : assembleB Config.params s = frameB s := by
  obtain ⟨-, hmode, -⟩ := domains_of_legalB h
  rw [assembleB, Machine.bodyB, codeOf_modeTableB6 _ hmode, codeOf_modeTableB8]
  rfl

/-- The bytes ENCB leaves in FRAME, in the order CTRL.RAW selects (R92). -/
theorem encbEffect_mem_frameB {s : State} (h : inputErrorB s = none) (c : Byte) :
    (encbEffect Config.params (s.setCtrl c)).mem = s.mem.writeBytes 0x40 (transportOrder c (frameB s)) := by
  rw [encbEffect_mem, assembleB_eq_frameB (s := s.setCtrl c) h]
  rfl

theorem read_encbEffect {s : State} (h : inputErrorB s = none) (c : Byte) {i : Nat} (hi : i < 18) :
    (encbEffect Config.params (s.setCtrl c)).mem.read (0x40 + i) = (transportOrder c (frameB s)).getD i 0 := by
  have hlen : (transportOrder c (frameB s)).length = 18 := length_transportOrder _ _
  rw [encbEffect_mem_frameB h, Memory.read_writeBytes, if_pos (by omega), Nat.add_sub_cancel_left]

theorem sameOutside_encbEffect (s : State) : sameOutside (encbEffect Config.params s).mem s.mem 0x40 0x52 := by
  rw [encbEffect_mem]
  exact sameOutside_writeBytes s.mem le_rfl (by simp)

theorem transportOrder_encbRaw (fr : List Byte) : transportOrder (encode .encbRaw) fr = fr :=
  if_pos (by decide)

theorem transportOrder_encb (fr : List Byte) : transportOrder (encode .encb) fr = fr.map rev8 :=
  if_neg (by decide)

/-- FRAME after ENCB.raw: the frame in layout order (R92). -/
theorem read_encbEffect_raw {s : State} (h : inputErrorB s = none) {i : Nat} (hi : i < 18) :
    (encbEffect Config.params (s.setCtrl (encode .encbRaw))).mem.read (0x40 + i) = (frameB s).getD i 0 := by
  rw [read_encbEffect h _ hi, transportOrder_encbRaw]

/-- FRAME after ENCB: the frame in wire order, the checksum byte included (R68, R92). -/
theorem read_encbEffect_wire {s : State} (h : inputErrorB s = none) {i : Nat} (hi : i < 18) :
    (encbEffect Config.params (s.setCtrl (encode .encb))).mem.read (0x40 + i) = rev8 ((frameB s).getD i 0) := by
  rw [read_encbEffect h _ hi, transportOrder_encb]
  exact List.getD_map (frameB s) (0 : Byte) rev8

/-- Settles O27: with legal inputs the frame is written in the order of the form, and an illegal input is reported. -/
theorem encbWritesVariantBFrame : Obligations.EncbWritesVariantBFrame :=
  fun _ => ⟨fun h =>
    ⟨⟨_, exec_encb_ok (.inr rfl) h, fun _ => read_encbEffect_raw h, sameOutside_encbEffect _⟩,
      ⟨_, exec_encb_ok (.inl rfl) h, fun _ => read_encbEffect_wire h, sameOutside_encbEffect _⟩⟩,
    fun _ h => ⟨exec_encb_error (.inr rfl) h, exec_encb_error (.inl rfl) h⟩⟩

/-! ### DECB -/

theorem slice_7_7_ne_zero_iff : ∀ b : Byte, slice b 7 7 ≠ 0 ↔ b.getLsbD 7 = true := by decide

/-- DECB's tests report the byte R91 names. -/
theorem info_structureChecksB (s : State) :
    (firstFailure (structureChecksB Config.params s)).map OpError.info = structureErrorB s := by
  simp only [structureChecksB, firstFailure_failIf, firstFailure_nil, apply_ite (Option.map OpError.info),
    Option.map_some, Option.map_none, ne_eq (s.frameLen.toNat), frameLen_toNat_eq_lB_iff, slice_7_7_ne_zero_iff,
    slice_5_3, slice_2_0]
  rfl

theorem firstFailure_structureChecksB_of_right {s : State} (h : structureErrorB s = none) :
    firstFailure (structureChecksB Config.params s) = none :=
  Option.map_eq_none_iff.1 ((info_structureChecksB s).trans h)

theorem code_structureChecksB (s : State) : ∀ c ∈ structureChecksB Config.params s, c.error.code = 2 := by
  simp [structureChecksB, failIf, OpError.code]

theorem exec_decb_error {s : State} {info : Byte} (h : structureErrorB s = some info) :
    exec .decb s = .next (decodeErrorState s 0x09 info) := by
  obtain ⟨e, hfail, hcode, hinfo⟩ :=
    exists_error_of_info ((info_structureChecksB (s.setCtrl 0x09)).trans h) (code_structureChecksB _)
  exact exec_eq_decodeErrorState rfl rfl hfail hcode hinfo

/-- A code of the table is that of the token the rule names; the structural check lets no other code through (R59). -/
theorem tokenOf_modeTableB6 : ∀ c ∈ modeTableB6, tokenOf modeTableB6 c = modeTokenB c := by decide

/-- The fields of a right frame in the words of R93. -/
theorem fieldsB_eq_decoded {s : State} (h : structureErrorB s = none) :
    fieldsB Config.params s = (decodedB s).decoded := by
  obtain ⟨hmode, -⟩ := codes_of_structureChecksB (firstFailure_structureChecksB_of_right h)
  rw [fieldsB, tokenOf_modeTableB6 _ hmode, slice_5_3, slice_5_3, slice_3_0, slice_2_0, slice_6_6, bitByte_getLsbD]
  rfl

theorem exec_decb_ok {s : State} (h : structureErrorB s = none) : exec .decb s = .next (decodedB s) := by
  have hpass := firstFailure_structureChecksB_of_right (s := s.setCtrl (encode .decb)) h
  have hstatus : doneStatus (effectOf .decb (s.setCtrl (encode .decb))).status = (s.status &&& 0xE0) ||| 0x03 :=
    doneStatus_setValid s.status
  rw [exec_eq_commitSuccess (i := .decb) hpass, hstatus, effectOf, decbEffect,
    fieldsB_eq_decoded (s := s.setCtrl (encode .decb)) h, verdict_checksumOkB]
  rfl

/-- Settles O28: the first failing test gives the error, and where none fails the fields are delivered. -/
theorem decbDecodesVariantBFrame : Obligations.DecbDecodesVariantBFrame :=
  fun _ => ⟨exec_decb_ok, fun _ => exec_decb_error⟩

/-! ### The bytes of an encoded frame -/

/-- Byte 5 of the frame (R89). -/
def powerByteB (p : Byte) : Byte := if p = 1 then Config.params.powerBOn else Config.params.powerBOff

/-- Byte 6 of the frame (R89). -/
def iseeModeByte (i m : Byte) : Byte := (i <<< 6) ||| (modeCodeB6 m <<< 3)

/-- The beeper indicator (R88). -/
def beeper (t : Byte) : Byte := if t = 16 ∨ t = 31 then 0b10 else 0b01

/-- Byte 9 of the frame (R89), `x` being the beeper indicator. -/
def beeperVaneFanByte (x v f : Byte) : Byte :=
  (x <<< 6) ||| ((if v = 6 then 0b000 else if v = 7 then 0b111 else v) <<< 3) ||| f

/-- Byte 14 of the frame (R89). -/
def econoByte (e : Byte) : Byte := Config.params.byte14Pad ||| (e <<< (Config.params.econoBit : Nat))

/-- Patterns that differ in one bit are not equal (R8). -/
theorem powerBOff_ne_powerBOn : Config.params.powerBOff ≠ Config.params.powerBOn := by
  obtain ⟨-, hone, -⟩ := parametersAreLegal
  intro heq
  rw [heq, BitVec.xor_self] at hone
  exact absurd hone (by decide)

/-- The power byte is one of the two patterns, so it gives the power back. -/
theorem powerByteB_decodes {p : Byte} (hp : p = 0 ∨ p = 1) :
    ¬ (powerByteB p ≠ Config.params.powerBOn ∧ powerByteB p ≠ Config.params.powerBOff) ∧
      (if powerByteB p = Config.params.powerBOn then 1 else 0) = p := by
  rcases hp with rfl | rfl
  · exact ⟨fun hneither => hneither.2 rfl, if_neg powerBOff_ne_powerBOn⟩
  · exact ⟨fun hneither => hneither.1 rfl, if_pos rfl⟩

theorem iseeModeByte_decodes : ∀ m : Byte, m.toNat ≤ 4 → ∀ i : Byte, i = 0 ∨ i = 1 →
    ¬ ((iseeModeByte i m).getLsbD 7 = true ∨ iseeModeByte i m &&& 0x07 ≠ 0) ∧
      (iseeModeByte i m >>> 3) &&& (0x07 : Byte) ∈ ([0b001, 0b010, 0b011, 0b100, 0b111] : List Byte) ∧
      modeTokenB ((iseeModeByte i m >>> 3) &&& (0x07 : Byte)) = m ∧
      (iseeModeByte i m >>> 6) &&& (0x01 : Byte) = i := by
  decide

theorem tempByte_decodes : ∀ t : Byte, 16 ≤ t.toNat ∧ t.toNat ≤ 31 → (16 : Byte) + ((t - 16) &&& 0x0F) = t := by
  decide

theorem beeper_eq_two_iff (t : Byte) : beeper t = 0b10 ↔ t = 16 ∨ t = 31 := by
  unfold beeper
  split
  next h => exact iff_of_true rfl h
  next h => exact iff_of_false (by decide) h

theorem beeper_mem (t : Byte) : beeper t = 0b01 ∨ beeper t = 0b10 := by
  unfold beeper
  split
  · exact .inr rfl
  · exact .inl rfl

/-- The vane and the fan leave the beeper bits alone (R99) and come back whatever the beeper bits are. -/
theorem beeperVaneFanByte_decodes : ∀ x : Byte, x = 0b01 ∨ x = 0b10 → ∀ f : Byte, f.toNat ≤ 5 →
    ∀ v : Byte, 1 ≤ v.toNat ∧ v.toNat ≤ 7 →
    beeperVaneFanByte x v f >>> 6 = x ∧
      (beeperVaneFanByte x v f >>> 3) &&& (0x07 : Byte) ≠ 0b110 ∧
      beeperVaneFanByte x v f &&& 0x07 ∉ ([0b110, 0b111] : List Byte) ∧
      beeperVaneFanByte x v f &&& 0x07 = f ∧
      (if (beeperVaneFanByte x v f >>> 3) &&& (0x07 : Byte) = (0b000 : Byte) then (6 : Byte)
        else if (beeperVaneFanByte x v f >>> 3) &&& (0x07 : Byte) = (0b111 : Byte) then 7
        else (beeperVaneFanByte x v f >>> 3) &&& (0x07 : Byte)) = v := by
  decide

/-- The padding has a 0 at `ECONO_BIT` (R9), so the bit there is the econo flag. -/
theorem econoByte_decodes {e : Byte} (he : e = 0 ∨ e = 1) :
    (econoByte e >>> (Config.params.econoBit : Nat)) &&& (0x01 : Byte) = e := by
  obtain ⟨-, -, hpad⟩ := parametersAreLegal
  rw [← bitByte_getLsbD, econoByte, BitVec.getLsbD_or, hpad, Bool.false_or]
  rcases he with rfl | rfl <;> simp [bitByte]

/-! ### The round trip -/

/-- FRAME holds the variant B frame of the command in the input registers of `s`, in layout order. -/
def HoldsFrameB (s t : State) : Prop :=
  t.frameLen = 144 ∧ ∀ i, i < 18 → t.mem.read (0x40 + i) = (frameB s).getD i 0

section RoundTrip

variable {s t : State}

/-- The bytes of the encoded frame that DECB takes fields from. -/
theorem bytes_of_holdsFrameB (h : HoldsFrameB s t) :
    t.mem.read (0x40 + 5) = powerByteB s.inPower ∧ t.mem.read (0x40 + 6) = iseeModeByte s.inIsee s.inMode ∧
      t.mem.read (0x40 + 7) = s.inTemp - 16 ∧
      t.mem.read (0x40 + 9) = beeperVaneFanByte (beeper s.inTemp) s.inVane s.inFan ∧
      t.mem.read (0x40 + 14) = econoByte s.inEcono := by
  obtain ⟨-, hread⟩ := h
  exact ⟨hread 5 (by omega), hread 6 (by omega), hread 7 (by omega), hread 9 (by omega), hread 14 (by omega)⟩

/-- The encoded frame passes the structural check (R91). -/
theorem structureErrorB_of_holdsFrameB (hlegal : inputErrorB s = none) (h : HoldsFrameB s t) :
    structureErrorB t = none := by
  obtain ⟨hpower, hmode, -, hfan, hvane, hisee, -⟩ := domains_of_legalB hlegal
  obtain ⟨hpower', -⟩ := powerByteB_decodes hpower
  obtain ⟨hfixed, hmode', -, -⟩ := iseeModeByte_decodes _ hmode _ hisee
  obtain ⟨-, hvane', hfan', -, -⟩ := beeperVaneFanByte_decodes _ (beeper_mem s.inTemp) _ hfan _ hvane
  obtain ⟨h5, h6, -, h9, -⟩ := bytes_of_holdsFrameB h
  obtain ⟨hlen, hread⟩ := h
  have h0 : t.mem.read (0x40 + 0) = Config.params.headerB 0 := hread 0 (by omega)
  have h1 : t.mem.read (0x40 + 1) = Config.params.headerB 1 := hread 1 (by omega)
  have h2 : t.mem.read (0x40 + 2) = Config.params.headerB 2 := hread 2 (by omega)
  have h3 : t.mem.read (0x40 + 3) = Config.params.headerB 3 := hread 3 (by omega)
  have h4 : t.mem.read (0x40 + 4) = Config.params.headerB 4 := hread 4 (by omega)
  have h15 : t.mem.read (0x40 + 15) = Config.params.footerB 0 := hread 15 (by omega)
  have h16 : t.mem.read (0x40 + 16) = Config.params.footerB 1 := hread 16 (by omega)
  rw [← h5] at hpower'
  rw [← h6] at hfixed hmode'
  rw [← h9] at hvane' hfan'
  unfold structureErrorB
  dsimp only
  rw [if_neg (not_not.2 hlen), if_neg (not_not.2 h0), if_neg (not_not.2 h1), if_neg (not_not.2 h2),
    if_neg (not_not.2 h3), if_neg (not_not.2 h4), if_neg (not_not.2 h15), if_neg (not_not.2 h16), if_neg hpower',
    if_neg hfixed, if_neg (not_not.2 hmode'), if_neg hvane', if_neg hfan']

/-- Byte 17 of the encoded frame is the sum of bytes 0 to 16 (R90). -/
theorem checksumB_of_holdsFrameB (h : HoldsFrameB s t) : checksumB t := by
  obtain ⟨-, hread⟩ := h
  have hbody : (List.range 17).map (fun i => t.mem.read (0x40 + i)) = Claim.bodyB s :=
    List.map_congr_left fun i hi => hread i ((List.mem_range.1 hi).trans (Nat.lt_succ_self 17))
  unfold checksumB
  rw [hbody]
  exact hread 17 (by omega)

/-- The decode of the encoded frame gives each field back (R97). -/
theorem roundTripB_decodedB (hlegal : inputErrorB s = none) (h : HoldsFrameB s t) : roundTripB s (decodedB t) := by
  obtain ⟨hpower, hmode, htemp, hfan, hvane, hisee, hecono⟩ := domains_of_legalB hlegal
  obtain ⟨-, hpower'⟩ := powerByteB_decodes hpower
  obtain ⟨-, -, hmode', hisee'⟩ := iseeModeByte_decodes _ hmode _ hisee
  have htemp' := tempByte_decodes _ htemp
  obtain ⟨-, -, -, hfan', hvane'⟩ := beeperVaneFanByte_decodes _ (beeper_mem s.inTemp) _ hfan _ hvane
  have hecono' := econoByte_decodes hecono
  obtain ⟨hvalid, herr⟩ := status_of_decode t.status
  have hcheck : verdictOf (checksumB t) = 1 := if_pos (checksumB_of_holdsFrameB h)
  obtain ⟨h5, h6, h7, h9, h14⟩ := bytes_of_holdsFrameB h
  rw [← h5] at hpower'
  rw [← h6] at hmode' hisee'
  rw [← h7] at htemp'
  rw [← h9] at hfan' hvane'
  rw [← h14] at hecono'
  exact ⟨rfl, hpower', hmode', htemp', hfan', hvane', hisee', hecono', rfl, rfl, rfl, hcheck, hvalid, herr⟩

/-- DECB of the encoded frame. -/
theorem exec_decb_of_holdsFrameB (hlegal : inputErrorB s = none) (h : HoldsFrameB s t) :
    ∃ u : State, exec .decb t = .next u ∧ roundTripB s u :=
  ⟨_, exec_decb_ok (structureErrorB_of_holdsFrameB hlegal h), roundTripB_decodedB hlegal h⟩

theorem exec_encbRaw_holdsFrameB (hlegal : inputErrorB s = none) :
    ∃ t : State, exec .encbRaw s = .next t ∧ HoldsFrameB s t :=
  ⟨_, exec_encb_ok (.inr rfl) hlegal, rfl, fun _ => read_encbEffect_raw hlegal⟩

/-- ENCB leaves each byte of the frame with its bits reversed (R68). -/
theorem exec_encb_wire (hlegal : inputErrorB s = none) :
    ∃ t : State, exec .encb s = .next t ∧ t.frameLen = 144 ∧
      ∀ i, i < 18 → t.mem.read (0x40 + i) = rev8 ((frameB s).getD i 0) :=
  ⟨_, exec_encb_ok (.inl rfl) hlegal, rfl, fun _ => read_encbEffect_wire hlegal⟩

/-- REV of the frame in wire order leaves it in layout order. -/
theorem exec_rev_wire_frameB (hlen : t.frameLen = 144)
    (hread : ∀ i, i < 18 → t.mem.read (0x40 + i) = rev8 ((frameB s).getD i 0)) :
    ∃ r : State, exec .rev t = .next r ∧ HoldsFrameB s r := by
  have hbits : t.frameLen.toNat = 144 := (frameLen_toNat_eq_lB_iff t).2 hlen
  refine ⟨_, exec_rev_ok (by omega) (by omega), hlen, fun i hi => ?_⟩
  rw [read_revEffect, if_pos (by omega), hread i hi, rev8_rev8]

/-- Bits 7:6 of byte 9 are the beeper indicator for every fan and vane (R99). -/
theorem beeper_byte_iff (hlegal : inputErrorB s = none) :
    (frameB s).getD 9 0 >>> 6 = (0b10 : Byte) ↔ s.inTemp = 16 ∨ s.inTemp = 31 := by
  obtain ⟨-, -, -, hfan, hvane, -, -⟩ := domains_of_legalB hlegal
  obtain ⟨hbeeper, -⟩ := beeperVaneFanByte_decodes _ (beeper_mem s.inTemp) _ hfan _ hvane
  rw [← beeper_eq_two_iff, ← hbeeper]
  rfl

end RoundTrip

/-- Settles O31: in layout order FRAME holds the frame when DECB runs; in wire order REV restores it first. -/
theorem variantBRoundTrip : Obligations.VariantBRoundTrip := by
  intro s hlegal
  refine ⟨?_, ?_⟩
  · obtain ⟨t, hencb, hframe⟩ := exec_encbRaw_holdsFrameB hlegal
    obtain ⟨u, hdecb, hround⟩ := exec_decb_of_holdsFrameB hlegal hframe
    exact ⟨t, u, hencb, hdecb, hround⟩
  · obtain ⟨t, hencb, hlen, hwire⟩ := exec_encb_wire hlegal
    obtain ⟨r, hrev, hframe⟩ := exec_rev_wire_frameB hlen hwire
    obtain ⟨u, hdecb, hround⟩ := exec_decb_of_holdsFrameB hlegal hframe
    exact ⟨t, r, u, hencb, hrev, hdecb, hround⟩

/-- Settles O33: byte 9 of the frame written by ENCB.raw, and of the one written by ENCB with its bits put back. -/
theorem beeperMarksBoundaryTemperature : Obligations.BeeperMarksBoundaryTemperature := by
  intro s hlegal
  refine ⟨?_, ?_⟩
  · obtain ⟨t, hencb, hlen, hread⟩ := exec_encbRaw_holdsFrameB hlegal
    refine ⟨t, hencb, hlen, ?_⟩
    rw [State.frame, hread 9 (by omega), beeper_byte_iff hlegal]
  · obtain ⟨t, hencb, hlen, hwire⟩ := exec_encb_wire hlegal
    refine ⟨t, hencb, hlen, ?_⟩
    rw [State.frame, hwire 9 (by omega), rev8_rev8, beeper_byte_iff hlegal]

/-! ### A flipped bit that enters the sum only -/

theorem getLsbD_xor_bit (x : Byte) {b k : Nat} (h : k ≠ b) : (x ^^^ ((1 : Byte) <<< b)).getLsbD k = x.getLsbD k := by
  change (x ^^^ BitVec.twoPow 8 b).getLsbD k = x.getLsbD k
  rw [BitVec.getLsbD_xor, BitVec.getLsbD_twoPow, decide_eq_false (Ne.symm h), Bool.and_false, Bool.xor_false]

/-- A mask that is 0 at a bit hides a flip of that bit. -/
theorem xor_bit_and_mask (x m : Byte) {b : Nat} (h : m.getLsbD b = false) :
    (x ^^^ ((1 : Byte) <<< b)) &&& m = x &&& m := by
  refine BitVec.eq_of_getLsbD_eq fun k _ => ?_
  rw [BitVec.getLsbD_and, BitVec.getLsbD_and]
  by_cases hk : k = b
  · rw [hk, h, Bool.and_false, Bool.and_false]
  · rw [getLsbD_xor_bit x hk]

theorem low_nibble_xor_bit (x : Byte) {b : Nat} (hlo : 4 ≤ b) (hb : b < 8) :
    (x ^^^ ((1 : Byte) <<< b)) &&& 0x0F = x &&& 0x0F :=
  xor_bit_and_mask x _ (by interval_cases b <;> rfl)

theorem fan_bits_xor_bit (x : Byte) {b : Nat} (hlo : 6 ≤ b) (hb : b < 8) :
    (x ^^^ ((1 : Byte) <<< b)) &&& 0x07 = x &&& 0x07 :=
  xor_bit_and_mask x _ (by interval_cases b <;> rfl)

theorem vane_bits_eq_mask : ∀ x : Byte, (x >>> 3) &&& (0x07 : Byte) = (x &&& 0x38) >>> 3 := by decide

theorem vane_bits_xor_bit (x : Byte) {b : Nat} (hlo : 6 ≤ b) (hb : b < 8) :
    ((x ^^^ ((1 : Byte) <<< b)) >>> 3) &&& (0x07 : Byte) = (x >>> 3) &&& (0x07 : Byte) := by
  rw [vane_bits_eq_mask, vane_bits_eq_mask, xor_bit_and_mask x 0x38 (by interval_cases b <;> rfl)]

theorem other_bit_xor_bit (x : Byte) {b : Nat} {k : Fin 8} (h : b ≠ (k : Nat)) :
    ((x ^^^ ((1 : Byte) <<< b)) >>> (k : Nat)) &&& (0x01 : Byte) = (x >>> (k : Nat)) &&& (0x01 : Byte) := by
  rw [← bitByte_getLsbD, ← bitByte_getLsbD, getLsbD_xor_bit x h.symm]

/-- The bits of FRAME that enter the variant B checksum, or are its byte, and nothing else that DECB reads (R98). -/
def SumOnlyBit (i b : Nat) : Prop :=
  i = 17 ∨ i = 8 ∨ i = 10 ∨ i = 11 ∨ i = 12 ∨ i = 13 ∨ (i = 7 ∧ 4 ≤ b) ∨ (i = 9 ∧ 6 ≤ b) ∨
    (i = 14 ∧ b ≠ (Config.params.econoBit : Nat))

/-- The two states agree on the bits of FRAME that DECB's structural check and fields read (R91, R93). -/
def SameFieldBits (t s : State) : Prop :=
  (∀ i, i < 7 ∨ i = 15 ∨ i = 16 → t.mem.read (0x40 + i) = s.mem.read (0x40 + i)) ∧
    t.mem.read (0x40 + 7) &&& 0x0F = s.mem.read (0x40 + 7) &&& 0x0F ∧
    t.mem.read (0x40 + 9) &&& 0x07 = s.mem.read (0x40 + 9) &&& 0x07 ∧
    (t.mem.read (0x40 + 9) >>> 3) &&& (0x07 : Byte) = (s.mem.read (0x40 + 9) >>> 3) &&& (0x07 : Byte) ∧
    (t.mem.read (0x40 + 14) >>> (Config.params.econoBit : Nat)) &&& (0x01 : Byte) =
      (s.mem.read (0x40 + 14) >>> (Config.params.econoBit : Nat)) &&& (0x01 : Byte)

section BitFlip

variable {s t : State} {i b : Nat}

/-- Byte `k` of FRAME after a flip, seen through a function that the flip of bit `b` of that byte does not change. -/
theorem apply_read_flipFrameBit (s : State) (g : Byte → Byte) {k : Nat}
    (h : i = k → g (s.mem.read (0x40 + k) ^^^ ((1 : Byte) <<< b)) = g (s.mem.read (0x40 + k))) :
    g ((flipFrameBit s i b).mem.read (0x40 + k)) = g (s.mem.read (0x40 + k)) := by
  rw [read_flipFrameBit]
  split
  next heq =>
    obtain rfl : i = k := by omega
    exact h rfl
  next => rfl

theorem sameFieldBits_flipFrameBit (s : State) (hpos : SumOnlyBit i b) (hb : b < 8) :
    SameFieldBits (flipFrameBit s i b) s := by
  unfold SumOnlyBit at hpos
  refine ⟨fun k hk => ?_, ?_, ?_, ?_, ?_⟩
  · rw [read_flipFrameBit, if_neg (by omega)]
  · exact apply_read_flipFrameBit s (· &&& 0x0F) fun _ => low_nibble_xor_bit _ (by omega) hb
  · exact apply_read_flipFrameBit s (· &&& 0x07) fun _ => fan_bits_xor_bit _ (by omega) hb
  · exact apply_read_flipFrameBit s (fun x => (x >>> 3) &&& (0x07 : Byte)) fun _ => vane_bits_xor_bit _ (by omega) hb
  · exact apply_read_flipFrameBit s (fun x => (x >>> (Config.params.econoBit : Nat)) &&& (0x01 : Byte)) fun _ =>
      other_bit_xor_bit _ (by omega)

theorem structureErrorB_congr (hlen : t.frameLen = s.frameLen) (h : SameFieldBits t s) :
    structureErrorB t = structureErrorB s := by
  obtain ⟨hbytes, -, hfan, hvane, -⟩ := h
  simp only [structureErrorB, hlen, hbytes, hfan, hvane, Nat.reduceLT, true_or, or_true]

theorem structureErrorB_flipFrameBit (s : State) (hpos : SumOnlyBit i b) (hb : b < 8) :
    structureErrorB (flipFrameBit s i b) = structureErrorB s :=
  structureErrorB_congr rfl (sameFieldBits_flipFrameBit s hpos hb)

theorem decoded_decodedB_congr (h : SameFieldBits t s) : (decodedB t).decoded = (decodedB s).decoded := by
  obtain ⟨hbytes, htemp, hfan, hvane, hecono⟩ := h
  simp only [State.decoded, decodedB, hbytes, htemp, hfan, hvane, hecono, Nat.reduceLT, true_or]

theorem structureErrorB_of_outCheck (hrun : exec .decb s = .next t) (hcheck : t.outCheck = 1) :
    structureErrorB s = none := by
  rcases herr : structureErrorB s with _ | info
  · rfl
  · rw [exec_decb_error herr] at hrun
    cases hrun
    cases hcheck

/-- One changed byte changes the sum mod 256, whatever the other bytes are (R90). -/
theorem sumMod256_ne_of_one_byte {f g : Nat → Byte} {n : Nat} (hi : i < n) (hne : f i ≠ g i)
    (hsame : ∀ k, k ≠ i → f k = g k) :
    sumMod256 ((List.range n).map f) ≠ sumMod256 ((List.range n).map g) := by
  have hmem : i ∈ List.range n := List.mem_range.2 hi
  have hrest : ((List.range n).erase i).map (BitVec.toNat ∘ f) = ((List.range n).erase i).map (BitVec.toNat ∘ g) :=
    List.map_congr_left fun k hk => congrArg BitVec.toNat (hsame k (List.nodup_range.mem_erase_iff.1 hk).1)
  rw [sumMod256, sumMod256, List.map_map, List.map_map, ← List.sum_map_erase _ hmem, ← List.sum_map_erase _ hmem,
    hrest]
  simp only [Function.comp_apply]
  bv_omega

/-- A flipped bit of a summed byte changes the sum, one of FRAME[17] changes the byte compared with it (R90, R98). -/
theorem not_checksumB_flipFrameBit (h : checksumB s) (hi : i ≤ 17) (hb : b < 8) :
    ¬ checksumB (flipFrameBit s i b) := by
  intro hflip
  unfold checksumB at h hflip
  rcases Nat.lt_or_eq_of_le hi with hlt | rfl
  · rw [read_flipFrameBit, if_neg (by omega), h] at hflip
    refine sumMod256_ne_of_one_byte hlt (fun hsame => ?_) (fun k hk => ?_) hflip
    · rw [read_flipFrameBit, if_pos rfl] at hsame
      exact xor_bit_ne _ hb hsame.symm
    · rw [read_flipFrameBit, if_neg (by omega)]
  · have hbody : (List.range 17).map (fun k => (flipFrameBit s 17 b).mem.read (0x40 + k)) =
        (List.range 17).map fun k => s.mem.read (0x40 + k) :=
      List.map_congr_left fun k hk => by
        have hk' := List.mem_range.1 hk
        rw [read_flipFrameBit, if_neg (by omega)]
    rw [hbody, ← h, read_flipFrameBit, if_pos rfl] at hflip
    exact xor_bit_ne _ hb hflip

/-- What a decode writes, as one update. -/
theorem decodedB_eq_setDecoded (s : State) :
    decodedB s = State.setDecoded { s with
      ctrl := 0x09, status := (s.status &&& 0xE0) ||| 0x03, errInfo := 0, outCheck := verdictOf (checksumB s) }
      (decodedB s).decoded :=
  rfl

/-- A decode made again with a bit changed that no field reads delivers the same fields and a verdict of its own. -/
theorem decodedB_flipFrameBit (s : State) (hpos : SumOnlyBit i b) (hb : b < 8) :
    decodedB (flipFrameBit (decodedB s) i b) =
      { flipFrameBit (decodedB s) i b with outCheck := verdictOf (checksumB (flipFrameBit (decodedB s) i b)) } := by
  have hfields : (decodedB (flipFrameBit (decodedB s) i b)).decoded = (decodedB s).decoded :=
    decoded_decodedB_congr (sameFieldBits_flipFrameBit (decodedB s) hpos hb)
  have hstatus : ((flipFrameBit (decodedB s) i b).status &&& 0xE0) ||| 0x03 = (decodedB s).status :=
    status_decode_again s.status
  rw [decodedB_eq_setDecoded (flipFrameBit (decodedB s) i b), hfields, hstatus]
  rfl

theorem le_of_sumOnlyBit (hpos : SumOnlyBit i b) : i ≤ 17 := by
  unfold SumOnlyBit at hpos
  omega

end BitFlip

/-- Settles O32: the structural check and the fields read none of these bits, and the checksum no longer matches. -/
theorem variantBSumOnlyBitFlipIsReported : Obligations.VariantBSumOnlyBitFlipIsReported := by
  intro s t i b hrun hcheck hb hpos
  have hright := structureErrorB_of_outCheck hrun hcheck
  obtain rfl : decodedB s = t := by simpa [exec_decb_ok hright] using hrun
  have hok : checksumB s := by
    by_contra hbad
    rw [decodedB_eq_setDecoded, State.setDecoded_outCheck, verdictOf, if_neg hbad] at hcheck
    cases hcheck
  have hright' : structureErrorB (flipFrameBit (decodedB s) i b) = none :=
    (structureErrorB_flipFrameBit (decodedB s) hpos hb).trans hright
  have hbad : ¬ checksumB (flipFrameBit (decodedB s) i b) :=
    not_checksumB_flipFrameBit (s := decodedB s) hok (le_of_sumOnlyBit hpos) hb
  rw [exec_decb_ok hright', decodedB_flipFrameBit s hpos hb, verdictOf, if_neg hbad]

end Sys2Proof.CodecB
end

section
/-! PROOFS. The statements of spec/60_exceptions.md: no error and no access stops the block (R104), and every operation
ends in one of the two commits of R102 and R103. -/

namespace Sys2Proof.Exceptions

open Sys2Proof.Machine Sys2Proof.Claim Sys2Proof.StateFile Sys2Proof.CodecA

/-! ### No step stops the block -/

/-- A CTRL write, legal or not, ends in a commit (R104). -/
theorem exists_next_ctrlWrite (v : Byte) (s : State) : ∃ t : State, ctrlWrite v s = .next t := by
  rcases ctrlWrite_commits v s with ⟨i, -, -, hrun⟩ | ⟨op, e, -, hrun⟩
  · exact ⟨_, hrun⟩
  · exact ⟨_, hrun⟩

/-- Every address of the register space exists (R31), so no host write is refused. -/
theorem exists_next_memWrite (a v : Byte) (s : State) : ∃ t : State, memWrite a v s = .next t := by
  by_cases ha : a = 0x00
  · obtain ⟨t, hrun⟩ := exists_next_ctrlWrite v s
    exact ⟨t, ha ▸ (memWrite_ctrl v s).trans hrun⟩
  · exact ⟨_, memWrite_other a v s ha⟩

theorem exists_next_hostEvent (e : HostEvent) (s : State) : ∃ t : State, hostEvent e s = .next t := by
  cases e
  case wr a v =>
    obtain ⟨t, hwrite⟩ := exists_next_memWrite a v s
    cases hline : s.host.resetLine
    · exact ⟨t, (hostEvent_wr_released a v hline).trans hwrite⟩
    · exact ⟨resetBlock s, by simp [hostEvent, hline]⟩
  case rd | expect => cases hline : s.host.resetLine <;> simp [hostEvent, hline]
  case resetInput level => exact ⟨_, rfl⟩

theorem exists_next_step (s : State) : ∃ t : State, step s = .next t := by
  rcases hp : s.host.pending with _ | ⟨e, es⟩
  · exact ⟨_, step_idle s hp⟩
  · obtain ⟨t, hevent⟩ := exists_next_hostEvent e (s.setPending es)
    exact ⟨t, (step_event s e es hp).trans hevent⟩

/-- Settles O12: a step is an idle one or a host event, and neither has an outcome but a next state. -/
theorem nothingStopsTheBlock : Obligations.NothingStopsTheBlock :=
  ⟨exists_next_step, fun s hp hline => by rw [step_idle s hp, idle_released s hline]⟩

/-! ### The success commit -/

/-- STATUS after a success: VALID set by a decode, carried over by every other operation (R102). -/
theorem status_success (i : Instr) (s : State) : (commitSuccess (effectOf i s)).status =
    if i = .deca ∨ i = .decb then (s.status &&& 0xE0) ||| 0x03 else doneStatus s.status := by
  have hdone : (commitSuccess (effectOf i s)).status = doneStatus (effectOf i s).status := statusFinish_done _
  rw [hdone]
  split
  next hi => rw [effectOf_status_decode i s hi, doneStatus_setValid]
  next hi =>
    rw [not_or] at hi
    rw [effectOf_status i s hi.1 hi.2]

theorem statusErr_success (s : State) : statusErr (commitSuccess s).status = 0 := statusErr_finish 0 s.status

/-! ### The error commit -/

/-- What an error puts in STATUS beside DONE is the code, in bits 4:2; VALID stays (R103). -/
theorem statusFinish_eq_masked (c : BitVec 3) (st : Byte) :
    statusFinish c st = (st &&& 0xE2) ||| (statusFinish c st &&& 0x1C) ||| 0x01 := by
  revert c st; decide

/-- The same for an error that clears VALID (R103). -/
theorem statusSetValid_false_finish_eq_masked (c : BitVec 3) (st : Byte) :
    statusSetValid false (statusFinish c st) =
      (st &&& 0xE0) ||| (statusSetValid false (statusFinish c st) &&& 0x1C) ||| 0x01 := by
  revert c st; decide

theorem status_error (i : Instr) (e : OpError) (s : State) :
    (commitError (some i) e s).status =
      (s.status &&& (if i = .deca ∨ i = .decb then 0xE0 else 0xE2)) |||
        ((commitError (some i) e s).status &&& 0x1C) ||| 0x01 := by
  rw [commitError_shape]
  dsimp only
  split
  · exact statusSetValid_false_finish_eq_masked e.code s.status
  · exact statusFinish_eq_masked e.code s.status

/-- An error changes STATUS, ERRINFO and OUT_CHECK at most, and OUT_CHECK only to clear it (R103, R104). -/
theorem commitError_precise (i : Instr) (e : OpError) (s : State) :
    commitError (some i) e s = { s with
      status :=
        (s.status &&& (if i = .deca ∨ i = .decb then 0xE0 else 0xE2)) |||
          ((commitError (some i) e s).status &&& 0x1C) ||| 0x01
      errInfo := (commitError (some i) e s).errInfo
      outCheck := if i = .deca ∨ i = .decb ∨ i = .csumaChk ∨ i = .csumbChk then 0 else s.outCheck } := by
  rw [← status_error, commitError_shape]

/-! ### Every operation makes one of them -/

/-- Settles O34: the two commits are told apart by ERR, which is 0 after a success and the error's code otherwise. -/
theorem everyOperationCommitsWhole : Obligations.EveryOperationCommitsWhole := by
  intro i s
  rcases exec_cases i s with ⟨-, hrun⟩ | ⟨e, -, hrun⟩
  · refine ⟨_, hrun, effectOf_ctrl i _, effectOf_host i _, fun _ => ⟨status_success i _, rfl, ?_⟩, fun herr => ?_⟩
    · exact effectOf_outCheck i (s.setCtrl (encode i))
    · exact absurd (statusErr_success _) herr
  · obtain ⟨-, herr, -⟩ := status_commitError (some i) e (s.setCtrl (encode i))
    refine ⟨_, hrun, ?_, ?_, fun hnone => ?_, fun _ => ?_⟩
    · rw [commitError_shape]; rfl
    · rw [commitError_shape]; rfl
    · exact absurd (herr.symm.trans hnone) e.code_ne_zero
    · exact commitError_precise i e (s.setCtrl (encode i))

end Sys2Proof.Exceptions
end

section
/-! PROOFS. The statements of spec/70_reset_and_hazards.md: what the reset input does when it is asserted, held and
released (R114, R115), and what each operation reports when it is started in the reset state (R118). -/

namespace Sys2Proof.ResetState

open Sys2Proof.Machine Sys2Proof.Claim Sys2Proof.StateFile Sys2Proof.MemoryMap Sys2Proof.Encoding
  Sys2Proof.BitUtility Sys2Proof.CodecA Sys2Proof.CodecB

/-! ### The level of the reset input -/

theorem writeReg_host (r : Reg) (v : Byte) (s : State) : (writeReg r v s).host = s.host := by
  cases r <;> rfl

theorem storeByte_host (a v : Byte) (s : State) : (storeByte a v s).host = s.host := by
  rcases storeByte_cases a v s with h | ⟨r, h⟩ | ⟨-, h⟩
  · rw [h]
  · rw [h, writeReg_host]
  · rw [h, State.setMem_host]

/-- No CTRL write, legal or not, changes the host's side. -/
theorem ctrlWrite_host {v : Byte} {s t : State} (h : ctrlWrite v s = .next t) : t.host = s.host := by
  rcases ctrlWrite_commits v s with ⟨i, -, -, hrun⟩ | ⟨op, e, -, hrun⟩
  · cases hrun.symm.trans h
    exact effectOf_host i _
  · cases hrun.symm.trans h
    rw [commitError_eq, State.setCtrl_host]

/-- A host write, and so an operation, does not move the reset input, which is on the host's side. -/
theorem memWrite_host {a v : Byte} {s t : State} (h : memWrite a v s = .next t) : t.host = s.host := by
  by_cases ha : a = 0x00
  · subst ha
    exact ctrlWrite_host ((memWrite_ctrl v s).symm.trans h)
  · cases (memWrite_other a v s ha).symm.trans h
    exact storeByte_host a v s

/-- Whatever the state before it, a step that ends with the reset input asserted ends in the reset state. -/
theorem resetHeld_of_step {s t : State} (h : step s = .next t) : ResetHeld t := by
  intro hline
  obtain ⟨r, ⟨-, hr, rfl | ⟨a, v, hwrite⟩⟩ | ⟨-, rfl⟩⟩ := step_cases h
  · exact absurd (hr.symm.trans hline) Bool.false_ne_true
  · rw [memWrite_host hwrite] at hline
    exact absurd (hr.symm.trans hline) Bool.false_ne_true
  · rfl

/-- Settles O42: only a step that asserts the input or starts under it ends with it asserted, and both reset the block. -/
theorem stepKeepsResetHeld : Obligations.StepKeepsResetHeld :=
  fun _ _ _ h => resetHeld_of_step h

/-! ### Each event while the reset input is asserted -/

theorem hostEvent_assert (s : State) :
    hostEvent (.resetInput true) s = .next ((resetBlock s).setResetLine true) := rfl

section Asserted

variable {s : State}

theorem hostEvent_release_asserted (h : s.host.resetLine = true) :
    hostEvent (.resetInput false) s = .next ((resetBlock s).setResetLine false) := by
  simp [hostEvent, h]

theorem hostEvent_wr_asserted (a v : Byte) (h : s.host.resetLine = true) :
    hostEvent (.wr a v) s = .next (resetBlock s) := by
  simp [hostEvent, h]

theorem hostEvent_rd_asserted (a : Byte) (h : s.host.resetLine = true) :
    hostEvent (.rd a) s = .next (recordRead a 0x00 none (resetBlock s)) := by
  simp [hostEvent, h]

theorem hostEvent_expect_asserted (a v : Byte) (h : s.host.resetLine = true) :
    hostEvent (.expect a v) s = .next (recordRead a 0x00 (some v) (resetBlock s)) := by
  simp [hostEvent, h]

theorem idle_asserted (h : s.host.resetLine = true) : idle s = resetBlock s := by
  simp [idle, h]

end Asserted

/-- Settles O11: the step takes the event from the queue, and each event gives the block its reset values. -/
theorem resetInputHoldsResetState : Obligations.ResetInputHoldsResetState := by
  intro s es
  refine ⟨fun hp => ?_, fun hline => ⟨fun hp => ?_, fun a v hp => ?_, fun a hp => ?_, fun a v hp => ?_, fun hp => ?_⟩⟩
  · rw [step_event s _ es hp, hostEvent_assert]
    rfl
  · rw [step_event s _ es hp, hostEvent_release_asserted (s := s.setPending es) hline]
    rfl
  · rw [step_event s _ es hp, hostEvent_wr_asserted (s := s.setPending es) a v hline]
    rfl
  · rw [step_event s _ es hp, hostEvent_rd_asserted (s := s.setPending es) a hline]
    rfl
  · rw [step_event s _ es hp, hostEvent_expect_asserted (s := s.setPending es) a v hline]
    rfl
  · rw [step_idle s hp, idle_asserted hline]
    rfl

/-! ### The operations in the reset state -/

/-- Zeros written where nothing is listed leave nothing listed. -/
theorem writeBytes_nil_of_zeros {vs : List Byte} (h : ∀ v ∈ vs, v = 0) (a : Nat) : Memory.writeBytes [] a vs = [] := by
  induction vs generalizing a with
  | nil => rfl
  | cons v vs ih =>
    obtain ⟨rfl, hvs⟩ := List.forall_mem_cons.1 h
    exact ih hvs (a + 1)

/-- Without symbols every bit of the bitstring is past the last one (R70). -/
theorem packedByte_zero (s : State) (i : Nat) : packedByte s 0 i = 0 := by
  simp only [packedByte, Nat.not_lt_zero, decide_false, Bool.false_and]
  rfl

theorem firstFailure_parseChecks_reset : firstFailure (parseChecks State.reset) = none :=
  firstFailure_parseChecks_of_symbols (Nat.zero_le 144) fun j hj => absurd hj (Nat.not_lt_zero j)

/-- PARSE of no symbols writes zeros, which FRAME holds already. -/
theorem parseEffect_reset_mem : (parseEffect State.reset).mem = [] := by
  rw [parseEffect_mem]
  refine writeBytes_nil_of_zeros (List.forall_mem_map.2 fun i _ => ?_) _
  exact packedByte_zero State.reset i

/-- STATUS and ERRINFO after an operation on the reset state: PARSE and REV accept the length 0, TOBIN names TB_WIDTH,
the encoders name IN_TEMP, and the decodes and checksum operations report the length (R118). -/
def resetReport : Instr → Byte × Byte
  | .tobin => (0x05, 11)
  | .parse | .rev => (0x01, 0)
  | .enca | .encaRaw | .encb | .encbRaw => (0x05, 3)
  | .deca | .csumaGen | .csumaChk | .decb | .csumbGen | .csumbChk => (0x09, 0xFF)

/-- Each operation's own statement, read at the reset state. -/
theorem exec_reset (i : Instr) : exec i State.reset =
    .next { State.reset with ctrl := encode i, status := (resetReport i).1, errInfo := (resetReport i).2 } := by
  cases i
  case tobin => exact (tobinRendersDigits State.reset 0 0 rfl rfl).1 (.inl rfl)
  case parse =>
    rw [exec_parse_ok firstFailure_parseChecks_reset, parseEffect_reset_mem]
    rfl
  case rev => exact exec_rev_ok (s := State.reset) (by decide) (by decide)
  case enca => exact exec_enca_error (.inl rfl) (s := State.reset) (f := 3) rfl
  case encaRaw => exact exec_enca_error (.inr rfl) (s := State.reset) (f := 3) rfl
  case encb => exact exec_encb_error (.inl rfl) (s := State.reset) (f := 3) rfl
  case encbRaw => exact exec_encb_error (.inr rfl) (s := State.reset) (f := 3) rfl
  case deca => exact exec_deca_error (s := State.reset) (info := 0xFF) rfl
  case decb => exact exec_decb_error (s := State.reset) (info := 0xFF) rfl
  case csumaGen => exact (csumaGenWritesComplements State.reset).2 (by decide)
  case csumaChk => exact (csumaChkComparesComplements State.reset).2.2 (by decide)
  case csumbGen => exact (csumbGenWritesSum State.reset).2 (by decide)
  case csumbChk => exact (csumbChkComparesSum State.reset).2.2 (by decide)

/-- Settles O13: the table lists the thirteen operations by their CTRL bytes, each with its report. -/
theorem operationsInTheResetState : Obligations.OperationsInTheResetState := by
  change ∀ row ∈ allInstrs.map fun i => (encode i, resetReport i), _
  rw [List.forall_mem_map]
  intro i _
  rw [memWrite_ctrl, ctrlWrite_of_decode _ (decode_encode i), exec_reset]

end Sys2Proof.ResetState
end
